-- ==== Sys2Proof/Word.lean ====
section
/-! DEFINITION. The two widths the block moves: a byte of the ROM, and the 16-bit value two bytes make
(`spec/20_memory.md` R50, R60). Offsets, lengths and counts are unbounded naturals (`spec/00_scope.md` R9). -/

namespace Sys2Proof

/-- A byte, bits numbered 7 (most significant) down to 0 (`spec/00_scope.md` R10). -/
abbrev Byte := BitVec 8

/-- A 16-bit operand or the header checksum, `0 .. 65535` (`spec/10_state.md` R31, R34). -/
abbrev Word := BitVec 16

end Sys2Proof
end

