-- ==== Sys2Proof/Syntax.lean ====
section
/-! DEFINITION. The values the block speaks of: failures (`spec/10_state.md` R36, R37), the header record (R34, R35), the
selectors (R21 to R23), the decoded instruction of 77 classes (R30 to R32), and `Instr`: one constructor for every mnemonic of `spec/opcode_table.json`, which names the
table's row that an encoding selects (R93, R97 of `spec/30_encoding.md`). -/

namespace Sys2Proof

/-- A failure value of parsing or decoding: the closed set `Error` of `spec/10_state.md` R37
(causes: `spec/60_exceptions.md` R341 to R345). Each is RETURNED by an operation; none is a trap. -/
inductive Error where
  /-- fewer bytes remain than a field needs (R341) -/
  | outOfData
  /-- the title bytes are not valid text (R342) -/
  | invalidText
  /-- the ROM-size byte is outside its table (R343) -/
  | unknownRomSize (b : Byte)
  /-- the RAM-size byte is outside its table (R344) -/
  | unknownRamSize (b : Byte)
  /-- the opcode byte has no instruction meaning (R345) -/
  | undefinedOpcode (b : Byte)
  deriving DecidableEq, Repr, Inhabited

/-- A failure value of `VALIDATE`, a type apart from `Error` (`spec/10_state.md` R36; `spec/60_exceptions.md` R346). -/
inductive ValidationError where
  /-- the fingerprint fails one of the four checks (`spec/41_header.md` R151) -/
  | logoMismatch
  /-- the super flag is set and the old licensee byte is not 0x33 (`spec/41_header.md` R152) -/
  | licenseeMismatch
  deriving DecidableEq, Repr, Inhabited

/-- `CartridgeHardwareType` (`spec/10_state.md` R35): the raw byte, of which the name `CART_NAME` gives is a function
(`cartTypeName`, Machine/Header.lean). Two values are equal exactly when their raw bytes are, as R35 says. -/
structure CartType where
  raw : Byte
  deriving DecidableEq, Repr, Inhabited

/-- The value `PARSE_HEADER` produces, fields in ROM order (`spec/10_state.md` R34). -/
structure HeaderRecord where
  fingerprint : List Byte
  title : List Byte
  color : Bool
  newLicensee : List Byte
  super : Bool
  cartType : CartType
  romBanks : Nat
  ramBanks : Nat
  ramBankSize : Nat
  japanese : Bool
  oldLicensee : Byte
  maskRomVersion : Byte
  complement : Byte
  checksum : Word
  deriving DecidableEq, Repr, Inhabited

/-- The eight members of `Register8` in the source's order (`spec/10_state.md` R21). They are selector codes inside
decoded values and denote no storage in this block (R20). -/
inductive Register8 where
  | b | c | d | e | h | l
  /-- the sentinel `[HL]`: "dereference the 16-bit HL-equivalent pointer register" -/
  | hlInd
  | a
  deriving DecidableEq, Repr, Inhabited

/-- The five members of `Register16` (`spec/10_state.md` R22). -/
inductive Register16 where
  | bc | de | hl | sp | af
  deriving DecidableEq, Repr, Inhabited

/-- The four conditions of conditional transfers (`spec/10_state.md` R23). -/
inductive Cond where
  | nz | z | nc | c
  deriving DecidableEq, Repr, Inhabited

/-- The decoded instruction of `spec/10_state.md` R30: a tagged value of 77 classes (R32) with the payload of R31.
It carries neither a position nor its own length. -/
inductive Instruction where
  | nop | stop | halt | di | ei | ret | reti | jpHl | ldSpHl
  | rlca | rrca | rla | rra | daa | cpl | scf | ccf
  | ldR8Imm (r : Register8) (d8 : Byte)
  | ldR16Imm (rr : Register16) (d16 : Word)
  | ldR8R8 (dst src : Register8)
  | stAInd (rr : Register16)
  | ldAInd (rr : Register16)
  | stAHli | stAHld | ldAHli | ldAHld
  | stAHigh (a8 : Byte)
  | ldAHigh (a8 : Byte)
  | stAHighC | ldAHighC
  | stAAbs (a16 : Word)
  | ldAAbs (a16 : Word)
  | stSpAbs (a16 : Word)
  | ldHlSpOff (e8 : Int)
  | push (rr : Register16)
  | pop (rr : Register16)
  | add (r : Register8) | adc (r : Register8) | sub (r : Register8) | sbc (r : Register8)
  | and (r : Register8) | xor (r : Register8) | or (r : Register8) | cp (r : Register8)
  | addImm (d8 : Byte) | adcImm (d8 : Byte) | subImm (d8 : Byte) | sbcImm (d8 : Byte)
  | andImm (d8 : Byte) | xorImm (d8 : Byte) | orImm (d8 : Byte) | cpImm (d8 : Byte)
  | inc8 (r : Register8)
  | dec8 (r : Register8)
  | inc16 (rr : Register16)
  | dec16 (rr : Register16)
  | addHl (rr : Register16)
  | addSpOff (e8 : Int)
  | jr (e8 : Int)
  | jrCc (cc : Cond) (e8 : Int)
  | jp (a16 : Word)
  | jpCc (cc : Cond) (a16 : Word)
  | call (a16 : Word)
  | callCc (cc : Cond) (a16 : Word)
  | retCc (cc : Cond)
  /-- `vec` is the target address itself, not the index (R31; `spec/46_flow.md` R288) -/
  | rst (vec : Byte)
  | rlc (r : Register8) | rrc (r : Register8) | rl (r : Register8) | rr (r : Register8)
  | sla (r : Register8) | sra (r : Register8) | swap (r : Register8) | srl (r : Register8)
  | bit (b : Fin 8) (r : Register8)
  | res (b : Fin 8) (r : Register8)
  | set (b : Fin 8) (r : Register8)
  deriving DecidableEq, Repr, Inhabited

/-- One constructor for every mnemonic of `spec/opcode_table.json`: the row an encoding selects, with the operand that
its trailing bytes give (`spec/10_state.md` R31: `d8`, `a8` unsigned bytes, `a8` kept raw, `e8` already signed, `d16`
and `a16` 16-bit values). Two rows are no `Instruction` of the spec and are here because the table has them:
`prefixCb`, the escape byte (`spec/42_decoder_top.md` R173), and `undefined`, the eleven bytes without meaning (R175).
A mnemonic operand in brackets is spelt `Mem…`: `ldMemHlIncA` is `LD [HL+],A`. The rows with an operand stand first (Lean
compiles no constructor with fields beyond its 244th); the others follow in the table's order. -/
inductive Instr where
  | ldBcD16 (d16 : Word)
  | ldBD8 (d8 : Byte)
  | ldMemA16Sp (a16 : Word)
  | ldCD8 (d8 : Byte)
  | ldDeD16 (d16 : Word)
  | ldDD8 (d8 : Byte)
  | jrE8 (e8 : Int)
  | ldED8 (d8 : Byte)
  | jrNzE8 (e8 : Int)
  | ldHlD16 (d16 : Word)
  | ldHD8 (d8 : Byte)
  | jrZE8 (e8 : Int)
  | ldLD8 (d8 : Byte)
  | jrNcE8 (e8 : Int)
  | ldSpD16 (d16 : Word)
  | ldMemHlD8 (d8 : Byte)
  | jrCE8 (e8 : Int)
  | ldAD8 (d8 : Byte)
  | jpNzA16 (a16 : Word)
  | jpA16 (a16 : Word)
  | callNzA16 (a16 : Word)
  | addAD8 (d8 : Byte)
  | jpZA16 (a16 : Word)
  | callZA16 (a16 : Word)
  | callA16 (a16 : Word)
  | adcAD8 (d8 : Byte)
  | jpNcA16 (a16 : Word)
  | undefined (b : Byte)
  | callNcA16 (a16 : Word)
  | subD8 (d8 : Byte)
  | jpCA16 (a16 : Word)
  | callCA16 (a16 : Word)
  | sbcAD8 (d8 : Byte)
  | ldhMemA8A (a8 : Byte)
  | andD8 (d8 : Byte)
  | addSpE8 (e8 : Int)
  | ldMemA16A (a16 : Word)
  | xorD8 (d8 : Byte)
  | ldhAMemA8 (a8 : Byte)
  | orD8 (d8 : Byte)
  | ldHlSpE8 (e8 : Int)
  | ldAMemA16 (a16 : Word)
  | cpD8 (d8 : Byte)
  | nop | ldMemBcA | incBc | incB | decB | rlca | addHlBc | ldAMemBc | decBc | incC | decC | rrca | stop
  | ldMemDeA | incDe | incD | decD | rla | addHlDe | ldAMemDe | decDe | incE | decE | rra | ldMemHlIncA
  | incHl | incH | decH | daa | addHlHl | ldAMemHlInc | decHl | incL | decL | cpl | ldMemHlDecA | incSp
  | incMemHl | decMemHl | scf | addHlSp | ldAMemHlDec | decSp | incA | decA | ccf | ldBB | ldBC | ldBD | ldBE
  | ldBH | ldBL | ldBMemHl | ldBA | ldCB | ldCC | ldCD | ldCE | ldCH | ldCL | ldCMemHl | ldCA | ldDB | ldDC
  | ldDD | ldDE | ldDH | ldDL | ldDMemHl | ldDA | ldEB | ldEC | ldED | ldEE | ldEH | ldEL | ldEMemHl | ldEA
  | ldHB | ldHC | ldHD | ldHE | ldHH | ldHL | ldHMemHl | ldHA | ldLB | ldLC | ldLD | ldLE | ldLH | ldLL
  | ldLMemHl | ldLA | ldMemHlB | ldMemHlC | ldMemHlD | ldMemHlE | ldMemHlH | ldMemHlL | halt | ldMemHlA | ldAB
  | ldAC | ldAD | ldAE | ldAH | ldAL | ldAMemHl | ldAA | addAB | addAC | addAD | addAE | addAH | addAL
  | addAMemHl | addAA | adcAB | adcAC | adcAD | adcAE | adcAH | adcAL | adcAMemHl | adcAA | subB | subC | subD
  | subE | subH | subL | subMemHl | subA | sbcAB | sbcAC | sbcAD | sbcAE | sbcAH | sbcAL | sbcAMemHl | sbcAA
  | andB | andC | andD | andE | andH | andL | andMemHl | andA | xorB | xorC | xorD | xorE | xorH | xorL
  | xorMemHl | xorA | orB | orC | orD | orE | orH | orL | orMemHl | orA | cpB | cpC | cpD | cpE | cpH | cpL
  | cpMemHl | cpA | retNz | popBc | pushBc | rst00 | retZ | ret | prefixCb | rst08 | retNc | popDe | pushDe
  | rst10 | retC | reti | rst18 | popHl | ldhMemCA | pushHl | rst20 | jpHl | rst28 | popAf | ldhAMemC | di
  | pushAf | rst30 | ldSpHl | ei | rst38 | rlcB | rlcC | rlcD | rlcE | rlcH | rlcL | rlcMemHl | rlcA | rrcB
  | rrcC | rrcD | rrcE | rrcH | rrcL | rrcMemHl | rrcA | rlB | rlC | rlD | rlE | rlH | rlL | rlMemHl | rlA
  | rrB | rrC | rrD | rrE | rrH | rrL | rrMemHl | rrA | slaB | slaC | slaD | slaE | slaH | slaL | slaMemHl
  | slaA | sraB | sraC | sraD | sraE | sraH | sraL | sraMemHl | sraA | swapB | swapC | swapD | swapE | swapH
  | swapL | swapMemHl | swapA | srlB | srlC | srlD | srlE | srlH | srlL | srlMemHl | srlA | bit0B | bit0C
  | bit0D | bit0E | bit0H | bit0L | bit0MemHl | bit0A | bit1B | bit1C | bit1D | bit1E | bit1H | bit1L
  | bit1MemHl | bit1A | bit2B | bit2C | bit2D | bit2E | bit2H | bit2L | bit2MemHl | bit2A | bit3B | bit3C
  | bit3D | bit3E | bit3H | bit3L | bit3MemHl | bit3A | bit4B | bit4C | bit4D | bit4E | bit4H | bit4L
  | bit4MemHl | bit4A | bit5B | bit5C | bit5D | bit5E | bit5H | bit5L | bit5MemHl | bit5A | bit6B | bit6C
  | bit6D | bit6E | bit6H | bit6L | bit6MemHl | bit6A | bit7B | bit7C | bit7D | bit7E | bit7H | bit7L
  | bit7MemHl | bit7A | res0B | res0C | res0D | res0E | res0H | res0L | res0MemHl | res0A | res1B | res1C
  | res1D | res1E | res1H | res1L | res1MemHl | res1A | res2B | res2C | res2D | res2E | res2H | res2L
  | res2MemHl | res2A | res3B | res3C | res3D | res3E | res3H | res3L | res3MemHl | res3A | res4B | res4C
  | res4D | res4E | res4H | res4L | res4MemHl | res4A | res5B | res5C | res5D | res5E | res5H | res5L
  | res5MemHl | res5A | res6B | res6C | res6D | res6E | res6H | res6L | res6MemHl | res6A | res7B | res7C
  | res7D | res7E | res7H | res7L | res7MemHl | res7A | set0B | set0C | set0D | set0E | set0H | set0L
  | set0MemHl | set0A | set1B | set1C | set1D | set1E | set1H | set1L | set1MemHl | set1A | set2B | set2C
  | set2D | set2E | set2H | set2L | set2MemHl | set2A | set3B | set3C | set3D | set3E | set3H | set3L
  | set3MemHl | set3A | set4B | set4C | set4D | set4E | set4H | set4L | set4MemHl | set4A | set5B | set5C
  | set5D | set5E | set5H | set5L | set5MemHl | set5A | set6B | set6C | set6D | set6E | set6H | set6L
  | set6MemHl | set6A | set7B | set7C | set7D | set7E | set7H | set7L | set7MemHl | set7A
  deriving DecidableEq, Repr, Inhabited

end Sys2Proof
end

