-- ==== Sys2Proof/Config.lean ====
section
/-! DEFINITION. What the spec leaves open: constants without a body, so that no proof can learn their value
(`spec/00_scope.md` R9, `spec/93_implementation_defined.md` U8, U10). -/

namespace Sys2Proof

/-- FREE VALUE: what `CAUSE` holds after an `INIT(start)` with `start <= LEN`, where the spec leaves it
unspecified (`spec/48_stream_cursor.md` R321, `spec/93_implementation_defined.md` U8).
The argument is the model's counter `State.freeCount`, so two constructions need not agree. Log entry 3. -/
opaque Config.freeCause : Nat → Error

/-- FREE VALUE: an assignment of the 256 cartridge-type bytes to 25 codes or to none, from which
`cartTypeName` makes the open parameter `CART_NAME` (`spec/41_header.md` R135,
`spec/93_implementation_defined.md` U10). Log entry 4. -/
opaque Config.cartCode : Byte → Option (Fin 25)

end Sys2Proof
end

