-- ==== Sys2Proof/WellFormed.lean ====
section
/-! DEFINITION. Which terms of `Instr` and of `Instruction` an encoding can stand for
(`spec/10_state.md` R31, R32; `spec/30_encoding.md` R100). -/

namespace Sys2Proof

/-- The eleven bytes with no defined instruction meaning (`spec/30_encoding.md` R100). -/
def undefinedBytes : List Byte :=
  [0xD3#8, 0xDB#8, 0xDD#8, 0xE3#8, 0xE4#8, 0xEB#8, 0xEC#8, 0xED#8, 0xF4#8, 0xFC#8, 0xFD#8]

/-- `e8` is a signed byte: `-128 .. 127` (`spec/10_state.md` R31). -/
def signedByteRange (e8 : Int) : Bool := decide (-128 ≤ e8) && decide (e8 ≤ 127)

/-- A row and its operand as some bytes encode it: a signed offset lies in `-128 .. 127` (R31) and the byte of the row
`UNDEFINED` is one of the eleven (R100); every other operand is a byte or a 16-bit value and needs no check. -/
def Instr.wf : Instr → Bool
  | .jrE8 e8 => signedByteRange e8
  | .jrNzE8 e8 => signedByteRange e8
  | .jrZE8 e8 => signedByteRange e8
  | .jrNcE8 e8 => signedByteRange e8
  | .jrCE8 e8 => signedByteRange e8
  | .addSpE8 e8 => signedByteRange e8
  | .ldHlSpE8 e8 => signedByteRange e8
  | .undefined b => undefinedBytes.contains b
  | .nop | .ldBcD16 _ | .ldMemBcA | .incBc | .incB | .decB | .ldBD8 _ | .rlca | .ldMemA16Sp _ | .addHlBc
  | .ldAMemBc | .decBc | .incC | .decC | .ldCD8 _ | .rrca | .stop | .ldDeD16 _ | .ldMemDeA | .incDe | .incD
  | .decD | .ldDD8 _ | .rla | .addHlDe | .ldAMemDe | .decDe | .incE | .decE | .ldED8 _ | .rra | .ldHlD16 _
  | .ldMemHlIncA | .incHl | .incH | .decH | .ldHD8 _ | .daa | .addHlHl | .ldAMemHlInc | .decHl | .incL | .decL
  | .ldLD8 _ | .cpl | .ldSpD16 _ | .ldMemHlDecA | .incSp | .incMemHl | .decMemHl | .ldMemHlD8 _ | .scf
  | .addHlSp | .ldAMemHlDec | .decSp | .incA | .decA | .ldAD8 _ | .ccf | .ldBB | .ldBC | .ldBD | .ldBE | .ldBH
  | .ldBL | .ldBMemHl | .ldBA | .ldCB | .ldCC | .ldCD | .ldCE | .ldCH | .ldCL | .ldCMemHl | .ldCA | .ldDB
  | .ldDC | .ldDD | .ldDE | .ldDH | .ldDL | .ldDMemHl | .ldDA | .ldEB | .ldEC | .ldED | .ldEE | .ldEH | .ldEL
  | .ldEMemHl | .ldEA | .ldHB | .ldHC | .ldHD | .ldHE | .ldHH | .ldHL | .ldHMemHl | .ldHA | .ldLB | .ldLC
  | .ldLD | .ldLE | .ldLH | .ldLL | .ldLMemHl | .ldLA | .ldMemHlB | .ldMemHlC | .ldMemHlD | .ldMemHlE
  | .ldMemHlH | .ldMemHlL | .halt | .ldMemHlA | .ldAB | .ldAC | .ldAD | .ldAE | .ldAH | .ldAL | .ldAMemHl
  | .ldAA | .addAB | .addAC | .addAD | .addAE | .addAH | .addAL | .addAMemHl | .addAA | .adcAB | .adcAC | .adcAD
  | .adcAE | .adcAH | .adcAL | .adcAMemHl | .adcAA | .subB | .subC | .subD | .subE | .subH | .subL | .subMemHl
  | .subA | .sbcAB | .sbcAC | .sbcAD | .sbcAE | .sbcAH | .sbcAL | .sbcAMemHl | .sbcAA | .andB | .andC | .andD
  | .andE | .andH | .andL | .andMemHl | .andA | .xorB | .xorC | .xorD | .xorE | .xorH | .xorL | .xorMemHl
  | .xorA | .orB | .orC | .orD | .orE | .orH | .orL | .orMemHl | .orA | .cpB | .cpC | .cpD | .cpE | .cpH | .cpL
  | .cpMemHl | .cpA | .retNz | .popBc | .jpNzA16 _ | .jpA16 _ | .callNzA16 _ | .pushBc | .addAD8 _ | .rst00
  | .retZ | .ret | .jpZA16 _ | .prefixCb | .callZA16 _ | .callA16 _ | .adcAD8 _ | .rst08 | .retNc | .popDe
  | .jpNcA16 _ | .callNcA16 _ | .pushDe | .subD8 _ | .rst10 | .retC | .reti | .jpCA16 _ | .callCA16 _
  | .sbcAD8 _ | .rst18 | .ldhMemA8A _ | .popHl | .ldhMemCA | .pushHl | .andD8 _ | .rst20 | .jpHl | .ldMemA16A _
  | .xorD8 _ | .rst28 | .ldhAMemA8 _ | .popAf | .ldhAMemC | .di | .pushAf | .orD8 _ | .rst30 | .ldSpHl
  | .ldAMemA16 _ | .ei | .cpD8 _ | .rst38 | .rlcB | .rlcC | .rlcD | .rlcE | .rlcH | .rlcL | .rlcMemHl | .rlcA
  | .rrcB | .rrcC | .rrcD | .rrcE | .rrcH | .rrcL | .rrcMemHl | .rrcA | .rlB | .rlC | .rlD | .rlE | .rlH | .rlL
  | .rlMemHl | .rlA | .rrB | .rrC | .rrD | .rrE | .rrH | .rrL | .rrMemHl | .rrA | .slaB | .slaC | .slaD | .slaE
  | .slaH | .slaL | .slaMemHl | .slaA | .sraB | .sraC | .sraD | .sraE | .sraH | .sraL | .sraMemHl | .sraA
  | .swapB | .swapC | .swapD | .swapE | .swapH | .swapL | .swapMemHl | .swapA | .srlB | .srlC | .srlD | .srlE
  | .srlH | .srlL | .srlMemHl | .srlA | .bit0B | .bit0C | .bit0D | .bit0E | .bit0H | .bit0L | .bit0MemHl
  | .bit0A | .bit1B | .bit1C | .bit1D | .bit1E | .bit1H | .bit1L | .bit1MemHl | .bit1A | .bit2B | .bit2C
  | .bit2D | .bit2E | .bit2H | .bit2L | .bit2MemHl | .bit2A | .bit3B | .bit3C | .bit3D | .bit3E | .bit3H
  | .bit3L | .bit3MemHl | .bit3A | .bit4B | .bit4C | .bit4D | .bit4E | .bit4H | .bit4L | .bit4MemHl | .bit4A
  | .bit5B | .bit5C | .bit5D | .bit5E | .bit5H | .bit5L | .bit5MemHl | .bit5A | .bit6B | .bit6C | .bit6D
  | .bit6E | .bit6H | .bit6L | .bit6MemHl | .bit6A | .bit7B | .bit7C | .bit7D | .bit7E | .bit7H | .bit7L
  | .bit7MemHl | .bit7A | .res0B | .res0C | .res0D | .res0E | .res0H | .res0L | .res0MemHl | .res0A | .res1B
  | .res1C | .res1D | .res1E | .res1H | .res1L | .res1MemHl | .res1A | .res2B | .res2C | .res2D | .res2E
  | .res2H | .res2L | .res2MemHl | .res2A | .res3B | .res3C | .res3D | .res3E | .res3H | .res3L | .res3MemHl
  | .res3A | .res4B | .res4C | .res4D | .res4E | .res4H | .res4L | .res4MemHl | .res4A | .res5B | .res5C
  | .res5D | .res5E | .res5H | .res5L | .res5MemHl | .res5A | .res6B | .res6C | .res6D | .res6E | .res6H
  | .res6L | .res6MemHl | .res6A | .res7B | .res7C | .res7D | .res7E | .res7H | .res7L | .res7MemHl | .res7A
  | .set0B | .set0C | .set0D | .set0E | .set0H | .set0L | .set0MemHl | .set0A | .set1B | .set1C | .set1D
  | .set1E | .set1H | .set1L | .set1MemHl | .set1A | .set2B | .set2C | .set2D | .set2E | .set2H | .set2L
  | .set2MemHl | .set2A | .set3B | .set3C | .set3D | .set3E | .set3H | .set3L | .set3MemHl | .set3A | .set4B
  | .set4C | .set4D | .set4E | .set4H | .set4L | .set4MemHl | .set4A | .set5B | .set5C | .set5D | .set5E
  | .set5H | .set5L | .set5MemHl | .set5A | .set6B | .set6C | .set6D | .set6E | .set6H | .set6L | .set6MemHl
  | .set6A | .set7B | .set7C | .set7D | .set7E | .set7H | .set7L | .set7MemHl | .set7A
    => true

/-- `rr` in {BC, DE, HL, SP} (`spec/10_state.md` R22, R32). -/
def Register16.isSpForm (rr : Register16) : Bool := rr != .af

/-- `rr` in {BC, DE, HL, AF} (`spec/10_state.md` R22, R32). -/
def Register16.isAfForm (rr : Register16) : Bool := rr != .sp

/-- `rr` in {BC, DE} (`spec/10_state.md` R22, R32). -/
def Register16.isPointerForm (rr : Register16) : Bool := rr == .bc || rr == .de

/-- The eight targets of `RST` (`spec/46_flow.md` R288). -/
def resetTargets : List Byte := [0x00#8, 0x08#8, 0x10#8, 0x18#8, 0x20#8, 0x28#8, 0x30#8, 0x38#8]

/-- The restrictions the class table puts on payloads (`spec/10_state.md` R31, R32; `spec/30_encoding.md` R102). -/
def Instruction.wf : Instruction → Bool
  | .ldR16Imm p _ | .inc16 p | .dec16 p | .addHl p => p.isSpForm
  | .push p | .pop p => p.isAfForm
  | .stAInd p | .ldAInd p => p.isPointerForm
  | .ldR8R8 dst src => !(dst == .hlInd && src == .hlInd)
  | .ldHlSpOff e8 | .addSpOff e8 | .jr e8 | .jrCc _ e8 => signedByteRange e8
  | .rst vec => resetTargets.contains vec
  | .nop | .stop | .halt | .di | .ei | .ret | .reti | .jpHl | .ldSpHl | .rlca | .rrca | .rla | .rra | .daa | .cpl
  | .scf | .ccf | .ldR8Imm _ _ | .stAHli | .stAHld | .ldAHli | .ldAHld | .stAHigh _ | .ldAHigh _ | .stAHighC
  | .ldAHighC | .stAAbs _ | .ldAAbs _ | .stSpAbs _ | .add _ | .adc _ | .sub _ | .sbc _ | .and _ | .xor _ | .or _
  | .cp _ | .addImm _ | .adcImm _ | .subImm _ | .sbcImm _ | .andImm _ | .xorImm _ | .orImm _ | .cpImm _ | .inc8 _
  | .dec8 _ | .jp _ | .jpCc _ _ | .call _ | .callCc _ _ | .retCc _ | .rlc _ | .rrc _ | .rl _ | .rr _ | .sla _
  | .sra _ | .swap _ | .srl _ | .bit _ _ | .res _ _ | .set _ _ => true

end Sys2Proof
end

