-- ==== Sys2Proof/Decode.lean ====
section
/-! DEFINITION. The decoder, from the bytes at an instruction boundary to the row of the opcode table they select, read
from the FIELD rules of `spec/30_encoding.md` (R82 to R92, R95 to R97), and after it the encoder, read from the
byte-by-byte TABLE (R93 and `spec/opcode_table.json`): two readings of the same map. -/

namespace Sys2Proof

/-! ## Fields, byte order and sign (R82, R86, R273) -/

/-- `b[7:6]` (R82). -/
def fieldX (b : Byte) : BitVec 2 := b.extractLsb' 6 2

/-- `b[5:3]` (R82). -/
def fieldY (b : Byte) : BitVec 3 := b.extractLsb' 3 3

/-- `b[2:0]` (R82). -/
def fieldZ (b : Byte) : BitVec 3 := b.extractLsb' 0 3

/-- `b[5:4]` (R82). -/
def fieldP (b : Byte) : BitVec 2 := b.extractLsb' 4 2

/-- `b[3]` (R82). -/
def fieldQ (b : Byte) : Bool := b.getLsbD 3

/-- The `Register8` member with code `z` (`spec/10_state.md` R21, `spec/30_encoding.md` R86). -/
def reg8 (z : BitVec 3) : Register8 :=
  match z with
  | 0#3 => .b | 1#3 => .c | 2#3 => .d | 3#3 => .e | 4#3 => .h | 5#3 => .l | 6#3 => .hlInd | _ => .a

/-- The code of a `Register8` member (`spec/10_state.md` R21). -/
def Register8.code : Register8 → BitVec 3
  | .b => 0#3 | .c => 1#3 | .d => 2#3 | .e => 3#3 | .h => 4#3 | .l => 5#3 | .hlInd => 6#3 | .a => 7#3

/-- The 16-bit selector with code `p` where code 3 is `SP` (`spec/10_state.md` R22). -/
def reg16Sp (p : BitVec 2) : Register16 :=
  match p with
  | 0#2 => .bc | 1#2 => .de | 2#2 => .hl | _ => .sp

/-- The 16-bit selector with code `p` where code 3 is `AF`: `PUSH` and `POP` (`spec/10_state.md` R22). -/
def reg16Af (p : BitVec 2) : Register16 :=
  match p with
  | 0#2 => .bc | 1#2 => .de | 2#2 => .hl | _ => .af

/-- The condition with a given code (`spec/10_state.md` R23). -/
def condOf (cc : BitVec 2) : Cond :=
  match cc with
  | 0#2 => .nz | 1#2 => .z | 2#2 => .nc | _ => .c

/-- `le16(b0, b1) = b0 + 256 * b1`: the first byte in the ROM is the low half (`spec/45_alu.md` R273). -/
def le16 (b0 b1 : Byte) : Word := BitVec.ofNat 16 (b0.toNat + 256 * b1.toNat)

/-- The signed reading of a byte: `b` if `b < 128`, else `b - 256` (`spec/45_alu.md` R273). -/
def sint8 (b : Byte) : Int := if b.toNat < 128 then (b.toNat : Int) else (b.toNat : Int) - 256

/-- The byte an operand `e8` is read from (`spec/92_eei_decisions.md` D13: `e8 mod 256`). -/
def offsetByte (e8 : Int) : Byte := BitVec.ofInt 8 e8

/-- The low byte of a 16-bit operand, the first of its two trailing bytes (`spec/30_encoding.md` R81). -/
def lowByte (v : Word) : Byte := BitVec.ofNat 8 (v.toNat % 256)

/-- The high byte of a 16-bit operand, the second of its two trailing bytes (`spec/30_encoding.md` R81). -/
def highByte (v : Word) : Byte := BitVec.ofNat 8 (v.toNat / 256)

/-! ## Rows selected by fields -/

/-- The move range: the row with destination `dst` and source `src` (R84, R87); the slot `[HL]`, `[HL]` is `HALT` (R102). -/
def moveRow : Register8 → Register8 → Instr
  | .b, .b => .ldBB | .b, .c => .ldBC | .b, .d => .ldBD | .b, .e => .ldBE
  | .b, .h => .ldBH | .b, .l => .ldBL | .b, .hlInd => .ldBMemHl | .b, .a => .ldBA
  | .c, .b => .ldCB | .c, .c => .ldCC | .c, .d => .ldCD | .c, .e => .ldCE
  | .c, .h => .ldCH | .c, .l => .ldCL | .c, .hlInd => .ldCMemHl | .c, .a => .ldCA
  | .d, .b => .ldDB | .d, .c => .ldDC | .d, .d => .ldDD | .d, .e => .ldDE
  | .d, .h => .ldDH | .d, .l => .ldDL | .d, .hlInd => .ldDMemHl | .d, .a => .ldDA
  | .e, .b => .ldEB | .e, .c => .ldEC | .e, .d => .ldED | .e, .e => .ldEE
  | .e, .h => .ldEH | .e, .l => .ldEL | .e, .hlInd => .ldEMemHl | .e, .a => .ldEA
  | .h, .b => .ldHB | .h, .c => .ldHC | .h, .d => .ldHD | .h, .e => .ldHE
  | .h, .h => .ldHH | .h, .l => .ldHL | .h, .hlInd => .ldHMemHl | .h, .a => .ldHA
  | .l, .b => .ldLB | .l, .c => .ldLC | .l, .d => .ldLD | .l, .e => .ldLE
  | .l, .h => .ldLH | .l, .l => .ldLL | .l, .hlInd => .ldLMemHl | .l, .a => .ldLA
  | .hlInd, .b => .ldMemHlB | .hlInd, .c => .ldMemHlC | .hlInd, .d => .ldMemHlD | .hlInd, .e => .ldMemHlE
  | .hlInd, .h => .ldMemHlH | .hlInd, .l => .ldMemHlL | .hlInd, .hlInd => .halt | .hlInd, .a => .ldMemHlA
  | .a, .b => .ldAB | .a, .c => .ldAC | .a, .d => .ldAD | .a, .e => .ldAE
  | .a, .h => .ldAH | .a, .l => .ldAL | .a, .hlInd => .ldAMemHl | .a, .a => .ldAA

/-- The eight ALU operations, in the source's order (R88). -/
inductive AluOp where
  | add | adc | sub | sbc | and | xor | or | cp
  deriving DecidableEq, Repr, Inhabited

/-- ALU operation number `y` (R88). -/
def aluOp (y : BitVec 3) : AluOp :=
  match y with
  | 0#3 => .add | 1#3 => .adc | 2#3 => .sub | 3#3 => .sbc | 4#3 => .and | 5#3 => .xor | 6#3 => .or | _ => .cp

/-- The ALU range: the row of an operation on a register operand (R85, R88). -/
def aluRow : AluOp → Register8 → Instr
  | .add, .b => .addAB | .add, .c => .addAC | .add, .d => .addAD | .add, .e => .addAE
  | .add, .h => .addAH | .add, .l => .addAL | .add, .hlInd => .addAMemHl | .add, .a => .addAA
  | .adc, .b => .adcAB | .adc, .c => .adcAC | .adc, .d => .adcAD | .adc, .e => .adcAE
  | .adc, .h => .adcAH | .adc, .l => .adcAL | .adc, .hlInd => .adcAMemHl | .adc, .a => .adcAA
  | .sub, .b => .subB | .sub, .c => .subC | .sub, .d => .subD | .sub, .e => .subE
  | .sub, .h => .subH | .sub, .l => .subL | .sub, .hlInd => .subMemHl | .sub, .a => .subA
  | .sbc, .b => .sbcAB | .sbc, .c => .sbcAC | .sbc, .d => .sbcAD | .sbc, .e => .sbcAE
  | .sbc, .h => .sbcAH | .sbc, .l => .sbcAL | .sbc, .hlInd => .sbcAMemHl | .sbc, .a => .sbcAA
  | .and, .b => .andB | .and, .c => .andC | .and, .d => .andD | .and, .e => .andE
  | .and, .h => .andH | .and, .l => .andL | .and, .hlInd => .andMemHl | .and, .a => .andA
  | .xor, .b => .xorB | .xor, .c => .xorC | .xor, .d => .xorD | .xor, .e => .xorE
  | .xor, .h => .xorH | .xor, .l => .xorL | .xor, .hlInd => .xorMemHl | .xor, .a => .xorA
  | .or, .b => .orB | .or, .c => .orC | .or, .d => .orD | .or, .e => .orE
  | .or, .h => .orH | .or, .l => .orL | .or, .hlInd => .orMemHl | .or, .a => .orA
  | .cp, .b => .cpB | .cp, .c => .cpC | .cp, .d => .cpD | .cp, .e => .cpE
  | .cp, .h => .cpH | .cp, .l => .cpL | .cp, .hlInd => .cpMemHl | .cp, .a => .cpA

/-- The row of an ALU operation on an immediate byte (R90; `spec/45_alu.md` R250). -/
def aluImmRow (d8 : Byte) : AluOp → Instr
  | .add => .addAD8 d8
  | .adc => .adcAD8 d8
  | .sub => .subD8 d8
  | .sbc => .sbcAD8 d8
  | .and => .andD8 d8
  | .xor => .xorD8 d8
  | .or => .orD8 d8
  | .cp => .cpD8 d8

/-- `LD r8,d8` (`spec/44_loads.md` R221). -/
def ldImmRow (d8 : Byte) : Register8 → Instr
  | .b => .ldBD8 d8
  | .c => .ldCD8 d8
  | .d => .ldDD8 d8
  | .e => .ldED8 d8
  | .h => .ldHD8 d8
  | .l => .ldLD8 d8
  | .hlInd => .ldMemHlD8 d8
  | .a => .ldAD8 d8

/-- `INC r8` (`spec/45_alu.md` R267). -/
def incRow : Register8 → Instr
  | .b => .incB
  | .c => .incC
  | .d => .incD
  | .e => .incE
  | .h => .incH
  | .l => .incL
  | .hlInd => .incMemHl
  | .a => .incA

/-- `DEC r8` (`spec/45_alu.md` R268). -/
def decRow : Register8 → Instr
  | .b => .decB
  | .c => .decC
  | .d => .decD
  | .e => .decE
  | .h => .decH
  | .l => .decL
  | .hlInd => .decMemHl
  | .a => .decA

/-- `JR cc,e8` (`spec/46_flow.md` R282). -/
def jrCcRow (e8 : Int) : Cond → Instr
  | .nz => .jrNzE8 e8
  | .z => .jrZE8 e8
  | .nc => .jrNcE8 e8
  | .c => .jrCE8 e8

/-- `JP cc,a16` (`spec/46_flow.md` R284). -/
def jpCcRow (a16 : Word) : Cond → Instr
  | .nz => .jpNzA16 a16
  | .z => .jpZA16 a16
  | .nc => .jpNcA16 a16
  | .c => .jpCA16 a16

/-- `CALL cc,a16` (`spec/46_flow.md` R286). -/
def callCcRow (a16 : Word) : Cond → Instr
  | .nz => .callNzA16 a16
  | .z => .callZA16 a16
  | .nc => .callNcA16 a16
  | .c => .callCA16 a16

/-- `RET cc` (`spec/46_flow.md` R287). -/
def retCcRow : Cond → Instr
  | .nz => .retNz
  | .z => .retZ
  | .nc => .retNc
  | .c => .retC

/-- `LD r16,d16` with selector code `p` (`spec/44_loads.md` R222). -/
def ldWordRow (d16 : Word) (p : BitVec 2) : Instr :=
  match p with
  | 0#2 => .ldBcD16 d16
  | 1#2 => .ldDeD16 d16
  | 2#2 => .ldHlD16 d16
  | _ => .ldSpD16 d16

/-- `INC r16` with selector code `p` (`spec/45_alu.md` R269). -/
def incWordRow (p : BitVec 2) : Instr :=
  match p with
  | 0#2 => .incBc
  | 1#2 => .incDe
  | 2#2 => .incHl
  | _ => .incSp

/-- `DEC r16` with selector code `p` (`spec/45_alu.md` R270). -/
def decWordRow (p : BitVec 2) : Instr :=
  match p with
  | 0#2 => .decBc
  | 1#2 => .decDe
  | 2#2 => .decHl
  | _ => .decSp

/-- `ADD HL,r16` with selector code `p` (`spec/45_alu.md` R271). -/
def addHlRow (p : BitVec 2) : Instr :=
  match p with
  | 0#2 => .addHlBc
  | 1#2 => .addHlDe
  | 2#2 => .addHlHl
  | _ => .addHlSp

/-- `PUSH r16` with selector code `p` (`spec/44_loads.md` R238). -/
def pushRow (p : BitVec 2) : Instr :=
  match p with
  | 0#2 => .pushBc
  | 1#2 => .pushDe
  | 2#2 => .pushHl
  | _ => .pushAf

/-- `POP r16` with selector code `p` (`spec/44_loads.md` R239). -/
def popRow (p : BitVec 2) : Instr :=
  match p with
  | 0#2 => .popBc
  | 1#2 => .popDe
  | 2#2 => .popHl
  | _ => .popAf

/-- Stores of the accumulator through `[BC]`, `[DE]`, `[HL+]`, `[HL-]` for `p = 0..3` (R90; `spec/44_loads.md` R224, R226, R227). -/
def storeARow (p : BitVec 2) : Instr :=
  match p with
  | 0#2 => .ldMemBcA
  | 1#2 => .ldMemDeA
  | 2#2 => .ldMemHlIncA
  | _ => .ldMemHlDecA

/-- Loads of the accumulator through `[BC]`, `[DE]`, `[HL+]`, `[HL-]` for `p = 0..3` (R90; `spec/44_loads.md` R225, R228, R229). -/
def loadARow (p : BitVec 2) : Instr :=
  match p with
  | 0#2 => .ldAMemBc
  | 1#2 => .ldAMemDe
  | 2#2 => .ldAMemHlInc
  | _ => .ldAMemHlDec

/-- The column `x = 0, z = 7`: `RLCA` to `CCF` (R90; `spec/43_control_misc.md` R200 to R207). -/
def accumulatorRow (y : BitVec 3) : Instr :=
  match y with
  | 0#3 => .rlca
  | 1#3 => .rrca
  | 2#3 => .rla
  | 3#3 => .rra
  | 4#3 => .daa
  | 5#3 => .cpl
  | 6#3 => .scf
  | _ => .ccf

/-- `RST vec` with `vec = 8 * y` (`spec/46_flow.md` R288). -/
def rstRow (y : BitVec 3) : Instr :=
  match y with
  | 0#3 => .rst00
  | 1#3 => .rst08
  | 2#3 => .rst10
  | 3#3 => .rst18
  | 4#3 => .rst20
  | 5#3 => .rst28
  | 6#3 => .rst30
  | _ => .rst38

/-- The eight rotate, shift and swap operations of the extended table, in its order (R97). -/
inductive RotOp where
  | rlc | rrc | rl | rr | sla | sra | swap | srl
  deriving DecidableEq, Repr, Inhabited

/-- Rotate or shift operation number `y` (R97). -/
def rotOp (y : BitVec 3) : RotOp :=
  match y with
  | 0#3 => .rlc | 1#3 => .rrc | 2#3 => .rl | 3#3 => .rr | 4#3 => .sla | 5#3 => .sra | 6#3 => .swap | _ => .srl

/-- The extended rows with `x = 0` (R97; `spec/47_extended.md` R301 to R308). -/
def rotRow : RotOp → Register8 → Instr
  | .rlc, .b => .rlcB | .rlc, .c => .rlcC | .rlc, .d => .rlcD | .rlc, .e => .rlcE
  | .rlc, .h => .rlcH | .rlc, .l => .rlcL | .rlc, .hlInd => .rlcMemHl | .rlc, .a => .rlcA
  | .rrc, .b => .rrcB | .rrc, .c => .rrcC | .rrc, .d => .rrcD | .rrc, .e => .rrcE
  | .rrc, .h => .rrcH | .rrc, .l => .rrcL | .rrc, .hlInd => .rrcMemHl | .rrc, .a => .rrcA
  | .rl, .b => .rlB | .rl, .c => .rlC | .rl, .d => .rlD | .rl, .e => .rlE
  | .rl, .h => .rlH | .rl, .l => .rlL | .rl, .hlInd => .rlMemHl | .rl, .a => .rlA
  | .rr, .b => .rrB | .rr, .c => .rrC | .rr, .d => .rrD | .rr, .e => .rrE
  | .rr, .h => .rrH | .rr, .l => .rrL | .rr, .hlInd => .rrMemHl | .rr, .a => .rrA
  | .sla, .b => .slaB | .sla, .c => .slaC | .sla, .d => .slaD | .sla, .e => .slaE
  | .sla, .h => .slaH | .sla, .l => .slaL | .sla, .hlInd => .slaMemHl | .sla, .a => .slaA
  | .sra, .b => .sraB | .sra, .c => .sraC | .sra, .d => .sraD | .sra, .e => .sraE
  | .sra, .h => .sraH | .sra, .l => .sraL | .sra, .hlInd => .sraMemHl | .sra, .a => .sraA
  | .swap, .b => .swapB | .swap, .c => .swapC | .swap, .d => .swapD | .swap, .e => .swapE
  | .swap, .h => .swapH | .swap, .l => .swapL | .swap, .hlInd => .swapMemHl | .swap, .a => .swapA
  | .srl, .b => .srlB | .srl, .c => .srlC | .srl, .d => .srlD | .srl, .e => .srlE
  | .srl, .h => .srlH | .srl, .l => .srlL | .srl, .hlInd => .srlMemHl | .srl, .a => .srlA

/-- `BIT b,r8` (`spec/47_extended.md` R309). -/
def bitRow (b : Fin 8) (r : Register8) : Instr :=
  match b, r with
  | 0, .b => .bit0B | 0, .c => .bit0C | 0, .d => .bit0D | 0, .e => .bit0E
  | 0, .h => .bit0H | 0, .l => .bit0L | 0, .hlInd => .bit0MemHl | 0, .a => .bit0A
  | 1, .b => .bit1B | 1, .c => .bit1C | 1, .d => .bit1D | 1, .e => .bit1E
  | 1, .h => .bit1H | 1, .l => .bit1L | 1, .hlInd => .bit1MemHl | 1, .a => .bit1A
  | 2, .b => .bit2B | 2, .c => .bit2C | 2, .d => .bit2D | 2, .e => .bit2E
  | 2, .h => .bit2H | 2, .l => .bit2L | 2, .hlInd => .bit2MemHl | 2, .a => .bit2A
  | 3, .b => .bit3B | 3, .c => .bit3C | 3, .d => .bit3D | 3, .e => .bit3E
  | 3, .h => .bit3H | 3, .l => .bit3L | 3, .hlInd => .bit3MemHl | 3, .a => .bit3A
  | 4, .b => .bit4B | 4, .c => .bit4C | 4, .d => .bit4D | 4, .e => .bit4E
  | 4, .h => .bit4H | 4, .l => .bit4L | 4, .hlInd => .bit4MemHl | 4, .a => .bit4A
  | 5, .b => .bit5B | 5, .c => .bit5C | 5, .d => .bit5D | 5, .e => .bit5E
  | 5, .h => .bit5H | 5, .l => .bit5L | 5, .hlInd => .bit5MemHl | 5, .a => .bit5A
  | 6, .b => .bit6B | 6, .c => .bit6C | 6, .d => .bit6D | 6, .e => .bit6E
  | 6, .h => .bit6H | 6, .l => .bit6L | 6, .hlInd => .bit6MemHl | 6, .a => .bit6A
  | 7, .b => .bit7B | 7, .c => .bit7C | 7, .d => .bit7D | 7, .e => .bit7E
  | 7, .h => .bit7H | 7, .l => .bit7L | 7, .hlInd => .bit7MemHl | 7, .a => .bit7A

/-- `RES b,r8` (`spec/47_extended.md` R310). -/
def resRow (b : Fin 8) (r : Register8) : Instr :=
  match b, r with
  | 0, .b => .res0B | 0, .c => .res0C | 0, .d => .res0D | 0, .e => .res0E
  | 0, .h => .res0H | 0, .l => .res0L | 0, .hlInd => .res0MemHl | 0, .a => .res0A
  | 1, .b => .res1B | 1, .c => .res1C | 1, .d => .res1D | 1, .e => .res1E
  | 1, .h => .res1H | 1, .l => .res1L | 1, .hlInd => .res1MemHl | 1, .a => .res1A
  | 2, .b => .res2B | 2, .c => .res2C | 2, .d => .res2D | 2, .e => .res2E
  | 2, .h => .res2H | 2, .l => .res2L | 2, .hlInd => .res2MemHl | 2, .a => .res2A
  | 3, .b => .res3B | 3, .c => .res3C | 3, .d => .res3D | 3, .e => .res3E
  | 3, .h => .res3H | 3, .l => .res3L | 3, .hlInd => .res3MemHl | 3, .a => .res3A
  | 4, .b => .res4B | 4, .c => .res4C | 4, .d => .res4D | 4, .e => .res4E
  | 4, .h => .res4H | 4, .l => .res4L | 4, .hlInd => .res4MemHl | 4, .a => .res4A
  | 5, .b => .res5B | 5, .c => .res5C | 5, .d => .res5D | 5, .e => .res5E
  | 5, .h => .res5H | 5, .l => .res5L | 5, .hlInd => .res5MemHl | 5, .a => .res5A
  | 6, .b => .res6B | 6, .c => .res6C | 6, .d => .res6D | 6, .e => .res6E
  | 6, .h => .res6H | 6, .l => .res6L | 6, .hlInd => .res6MemHl | 6, .a => .res6A
  | 7, .b => .res7B | 7, .c => .res7C | 7, .d => .res7D | 7, .e => .res7E
  | 7, .h => .res7H | 7, .l => .res7L | 7, .hlInd => .res7MemHl | 7, .a => .res7A

/-- `SET b,r8` (`spec/47_extended.md` R311). -/
def setRow (b : Fin 8) (r : Register8) : Instr :=
  match b, r with
  | 0, .b => .set0B | 0, .c => .set0C | 0, .d => .set0D | 0, .e => .set0E
  | 0, .h => .set0H | 0, .l => .set0L | 0, .hlInd => .set0MemHl | 0, .a => .set0A
  | 1, .b => .set1B | 1, .c => .set1C | 1, .d => .set1D | 1, .e => .set1E
  | 1, .h => .set1H | 1, .l => .set1L | 1, .hlInd => .set1MemHl | 1, .a => .set1A
  | 2, .b => .set2B | 2, .c => .set2C | 2, .d => .set2D | 2, .e => .set2E
  | 2, .h => .set2H | 2, .l => .set2L | 2, .hlInd => .set2MemHl | 2, .a => .set2A
  | 3, .b => .set3B | 3, .c => .set3C | 3, .d => .set3D | 3, .e => .set3E
  | 3, .h => .set3H | 3, .l => .set3L | 3, .hlInd => .set3MemHl | 3, .a => .set3A
  | 4, .b => .set4B | 4, .c => .set4C | 4, .d => .set4D | 4, .e => .set4E
  | 4, .h => .set4H | 4, .l => .set4L | 4, .hlInd => .set4MemHl | 4, .a => .set4A
  | 5, .b => .set5B | 5, .c => .set5C | 5, .d => .set5D | 5, .e => .set5E
  | 5, .h => .set5H | 5, .l => .set5L | 5, .hlInd => .set5MemHl | 5, .a => .set5A
  | 6, .b => .set6B | 6, .c => .set6C | 6, .d => .set6D | 6, .e => .set6E
  | 6, .h => .set6H | 6, .l => .set6L | 6, .hlInd => .set6MemHl | 6, .a => .set6A
  | 7, .b => .set7B | 7, .c => .set7C | 7, .d => .set7D | 7, .e => .set7E
  | 7, .h => .set7H | 7, .l => .set7L | 7, .hlInd => .set7MemHl | 7, .a => .set7A

/-- Entry `b1` of the extended table: total over all 256 bytes (R96, R97). -/
def extendedRow (b1 : Byte) : Instr :=
  let r := reg8 (fieldZ b1)
  match fieldX b1 with
  | 0#2 => rotRow (rotOp (fieldY b1)) r
  | 1#2 => bitRow (fieldY b1).toFin r
  | 2#2 => resRow (fieldY b1).toFin r
  | _ => setRow (fieldY b1).toFin r

/-- The exact-match cases `0x00 .. 0x3F` (R89, R90, R93), with `b1`, `b2` the bytes after the opcode byte. -/
def lowRow (b0 b1 b2 : Byte) : Instr :=
  match fieldZ b0 with
  | 0#3 =>
    match fieldY b0 with
    | 0#3 => .nop
    | 1#3 => .ldMemA16Sp (le16 b1 b2)
    | 2#3 => .stop
    | 3#3 => .jrE8 (sint8 b1)
    | _ => jrCcRow (sint8 b1) (condOf ((fieldY b0).extractLsb' 0 2))
  | 1#3 => if fieldQ b0 then addHlRow (fieldP b0) else ldWordRow (le16 b1 b2) (fieldP b0)
  | 2#3 => if fieldQ b0 then loadARow (fieldP b0) else storeARow (fieldP b0)
  | 3#3 => if fieldQ b0 then decWordRow (fieldP b0) else incWordRow (fieldP b0)
  | 4#3 => incRow (reg8 (fieldY b0))
  | 5#3 => decRow (reg8 (fieldY b0))
  | 6#3 => ldImmRow b1 (reg8 (fieldY b0))
  | _ => accumulatorRow (fieldY b0)

/-- The exact-match cases `0xC0 .. 0xFF` (R89, R90, R93), with `b1`, `b2` the bytes after the opcode byte. The escape
and the undefined bytes stand in their own rows; the decoder takes them out first (R83). -/
def highRow (b0 b1 b2 : Byte) : Instr :=
  match fieldZ b0 with
  | 0#3 =>
    match fieldY b0 with
    | 4#3 => .ldhMemA8A b1
    | 5#3 => .addSpE8 (sint8 b1)
    | 6#3 => .ldhAMemA8 b1
    | 7#3 => .ldHlSpE8 (sint8 b1)
    | y => retCcRow (condOf (y.extractLsb' 0 2))
  | 1#3 =>
    if fieldQ b0 then
      match fieldP b0 with
      | 0#2 => .ret
      | 1#2 => .reti
      | 2#2 => .jpHl
      | _ => .ldSpHl
    else popRow (fieldP b0)
  | 2#3 =>
    match fieldY b0 with
    | 4#3 => .ldhMemCA
    | 5#3 => .ldMemA16A (le16 b1 b2)
    | 6#3 => .ldhAMemC
    | 7#3 => .ldAMemA16 (le16 b1 b2)
    | y => jpCcRow (le16 b1 b2) (condOf (y.extractLsb' 0 2))
  | 3#3 =>
    match fieldY b0 with
    | 0#3 => .jpA16 (le16 b1 b2)
    | 1#3 => .prefixCb
    | 6#3 => .di
    | 7#3 => .ei
    | _ => .undefined b0
  | 4#3 =>
    match fieldY b0 with
    | 0#3 | 1#3 | 2#3 | 3#3 => callCcRow (le16 b1 b2) (condOf ((fieldY b0).extractLsb' 0 2))
    | _ => .undefined b0
  | 5#3 =>
    if fieldQ b0 then
      match fieldP b0 with
      | 0#2 => .callA16 (le16 b1 b2)
      | _ => .undefined b0
    else pushRow (fieldP b0)
  | 6#3 => aluImmRow b1 (aluOp (fieldY b0))
  | _ => rstRow (fieldY b0)

/-- The row of a primary byte that is not the escape, by the quarter `x` it lies in (R83: the move range with its hole
0x76, the ALU range, the two halves of the exact-match cases). -/
def primaryRow (b0 b1 b2 : Byte) : Instr :=
  match fieldX b0 with
  | 0#2 => lowRow b0 b1 b2
  | 1#2 => moveRow (reg8 (fieldY b0)) (reg8 (fieldZ b0))
  | 2#2 => aluRow (aluOp (fieldY b0)) (reg8 (fieldZ b0))
  | _ => highRow b0 b1 b2

/-! ## Operand width (R91) -/

/-- The 25 primary bytes with one trailing operand byte (R91). -/
def oneOperandBytes : List Byte :=
  [0x06#8, 0x0E#8, 0x16#8, 0x1E#8, 0x26#8, 0x2E#8, 0x36#8, 0x3E#8] ++
  [0xC6#8, 0xCE#8, 0xD6#8, 0xDE#8, 0xE6#8, 0xEE#8, 0xF6#8, 0xFE#8] ++
  [0x18#8, 0x20#8, 0x28#8, 0x30#8, 0x38#8] ++ [0xE8#8, 0xF8#8] ++ [0xE0#8, 0xF0#8]

/-- The 17 primary bytes with two trailing operand bytes (R91). -/
def twoOperandBytes : List Byte :=
  [0x01#8, 0x11#8, 0x21#8, 0x31#8] ++ [0x08#8, 0xEA#8, 0xFA#8] ++
  [0xC2#8, 0xCA#8, 0xD2#8, 0xDA#8, 0xC3#8] ++ [0xC4#8, 0xCC#8, 0xD4#8, 0xDC#8, 0xCD#8]

/-- `opw(b0)`: the number of trailing operand bytes of a primary byte that is neither the escape nor undefined (R91). -/
def operandWidth (b0 : Byte) : Nat :=
  if oneOperandBytes.contains b0 then 1 else if twoOperandBytes.contains b0 then 2 else 0

/-- The escape byte (R83, R96). -/
def escapeByte : Byte := 0xCB#8

/-! ## The decoder -/

/-- A defined primary byte with the bytes after it: as many of them as its operand width are its operand
(`spec/42_decoder_top.md` R174, R176). -/
def decodeDefined (b0 : Byte) (rest : List Byte) : Except Error (Instr × Nat) :=
  match operandWidth b0, rest with
  | 0, _ => .ok (primaryRow b0 0 0, 1)
  | 1, b1 :: _ => .ok (primaryRow b0 b1 0, 2)
  | 2, b1 :: b2 :: _ => .ok (primaryRow b0 b1 b2, 3)
  | _, _ => .error .outOfData

/-- From the bytes that are present from an instruction boundary on, to the row they select and the number of bytes of
its encoding; `outOfData` where there is no opcode byte or an operand byte is missing (`spec/42_decoder_top.md` R170,
R171, R176). Order of the cases: R83. The escape byte with no byte after it selects its own row `prefixCb`, on which
`DECODE` fails (R173), and an undefined byte its row `undefined`, on which it fails too (R175): the failures are those
rows' meanings. -/
def decode : List Byte → Except Error (Instr × Nat)
  | [] => .error .outOfData
  | b0 :: rest =>
    if b0 = escapeByte then
      match rest with
      | [] => .ok (.prefixCb, 1)
      | b1 :: _ => .ok (extendedRow b1, 2)
    else if undefinedBytes.contains b0 then .ok (.undefined b0, 1)
    else decodeDefined b0 rest

/-! ## The encoder -/

/-- The bytes of a row: its byte of the table (R93), or 0xCB and its index (R97), and the operand bytes after it (R81). -/
def encode : Instr → List Byte
  | .nop => [0x00#8]
  | .ldBcD16 d16 => [0x01#8, lowByte d16, highByte d16]
  | .ldMemBcA => [0x02#8]
  | .incBc => [0x03#8]
  | .incB => [0x04#8]
  | .decB => [0x05#8]
  | .ldBD8 d8 => [0x06#8, d8]
  | .rlca => [0x07#8]
  | .ldMemA16Sp a16 => [0x08#8, lowByte a16, highByte a16]
  | .addHlBc => [0x09#8]
  | .ldAMemBc => [0x0A#8]
  | .decBc => [0x0B#8]
  | .incC => [0x0C#8]
  | .decC => [0x0D#8]
  | .ldCD8 d8 => [0x0E#8, d8]
  | .rrca => [0x0F#8]
  | .stop => [0x10#8]
  | .ldDeD16 d16 => [0x11#8, lowByte d16, highByte d16]
  | .ldMemDeA => [0x12#8]
  | .incDe => [0x13#8]
  | .incD => [0x14#8]
  | .decD => [0x15#8]
  | .ldDD8 d8 => [0x16#8, d8]
  | .rla => [0x17#8]
  | .jrE8 e8 => [0x18#8, offsetByte e8]
  | .addHlDe => [0x19#8]
  | .ldAMemDe => [0x1A#8]
  | .decDe => [0x1B#8]
  | .incE => [0x1C#8]
  | .decE => [0x1D#8]
  | .ldED8 d8 => [0x1E#8, d8]
  | .rra => [0x1F#8]
  | .jrNzE8 e8 => [0x20#8, offsetByte e8]
  | .ldHlD16 d16 => [0x21#8, lowByte d16, highByte d16]
  | .ldMemHlIncA => [0x22#8]
  | .incHl => [0x23#8]
  | .incH => [0x24#8]
  | .decH => [0x25#8]
  | .ldHD8 d8 => [0x26#8, d8]
  | .daa => [0x27#8]
  | .jrZE8 e8 => [0x28#8, offsetByte e8]
  | .addHlHl => [0x29#8]
  | .ldAMemHlInc => [0x2A#8]
  | .decHl => [0x2B#8]
  | .incL => [0x2C#8]
  | .decL => [0x2D#8]
  | .ldLD8 d8 => [0x2E#8, d8]
  | .cpl => [0x2F#8]
  | .jrNcE8 e8 => [0x30#8, offsetByte e8]
  | .ldSpD16 d16 => [0x31#8, lowByte d16, highByte d16]
  | .ldMemHlDecA => [0x32#8]
  | .incSp => [0x33#8]
  | .incMemHl => [0x34#8]
  | .decMemHl => [0x35#8]
  | .ldMemHlD8 d8 => [0x36#8, d8]
  | .scf => [0x37#8]
  | .jrCE8 e8 => [0x38#8, offsetByte e8]
  | .addHlSp => [0x39#8]
  | .ldAMemHlDec => [0x3A#8]
  | .decSp => [0x3B#8]
  | .incA => [0x3C#8]
  | .decA => [0x3D#8]
  | .ldAD8 d8 => [0x3E#8, d8]
  | .ccf => [0x3F#8]
  | .ldBB => [0x40#8]
  | .ldBC => [0x41#8]
  | .ldBD => [0x42#8]
  | .ldBE => [0x43#8]
  | .ldBH => [0x44#8]
  | .ldBL => [0x45#8]
  | .ldBMemHl => [0x46#8]
  | .ldBA => [0x47#8]
  | .ldCB => [0x48#8]
  | .ldCC => [0x49#8]
  | .ldCD => [0x4A#8]
  | .ldCE => [0x4B#8]
  | .ldCH => [0x4C#8]
  | .ldCL => [0x4D#8]
  | .ldCMemHl => [0x4E#8]
  | .ldCA => [0x4F#8]
  | .ldDB => [0x50#8]
  | .ldDC => [0x51#8]
  | .ldDD => [0x52#8]
  | .ldDE => [0x53#8]
  | .ldDH => [0x54#8]
  | .ldDL => [0x55#8]
  | .ldDMemHl => [0x56#8]
  | .ldDA => [0x57#8]
  | .ldEB => [0x58#8]
  | .ldEC => [0x59#8]
  | .ldED => [0x5A#8]
  | .ldEE => [0x5B#8]
  | .ldEH => [0x5C#8]
  | .ldEL => [0x5D#8]
  | .ldEMemHl => [0x5E#8]
  | .ldEA => [0x5F#8]
  | .ldHB => [0x60#8]
  | .ldHC => [0x61#8]
  | .ldHD => [0x62#8]
  | .ldHE => [0x63#8]
  | .ldHH => [0x64#8]
  | .ldHL => [0x65#8]
  | .ldHMemHl => [0x66#8]
  | .ldHA => [0x67#8]
  | .ldLB => [0x68#8]
  | .ldLC => [0x69#8]
  | .ldLD => [0x6A#8]
  | .ldLE => [0x6B#8]
  | .ldLH => [0x6C#8]
  | .ldLL => [0x6D#8]
  | .ldLMemHl => [0x6E#8]
  | .ldLA => [0x6F#8]
  | .ldMemHlB => [0x70#8]
  | .ldMemHlC => [0x71#8]
  | .ldMemHlD => [0x72#8]
  | .ldMemHlE => [0x73#8]
  | .ldMemHlH => [0x74#8]
  | .ldMemHlL => [0x75#8]
  | .halt => [0x76#8]
  | .ldMemHlA => [0x77#8]
  | .ldAB => [0x78#8]
  | .ldAC => [0x79#8]
  | .ldAD => [0x7A#8]
  | .ldAE => [0x7B#8]
  | .ldAH => [0x7C#8]
  | .ldAL => [0x7D#8]
  | .ldAMemHl => [0x7E#8]
  | .ldAA => [0x7F#8]
  | .addAB => [0x80#8]
  | .addAC => [0x81#8]
  | .addAD => [0x82#8]
  | .addAE => [0x83#8]
  | .addAH => [0x84#8]
  | .addAL => [0x85#8]
  | .addAMemHl => [0x86#8]
  | .addAA => [0x87#8]
  | .adcAB => [0x88#8]
  | .adcAC => [0x89#8]
  | .adcAD => [0x8A#8]
  | .adcAE => [0x8B#8]
  | .adcAH => [0x8C#8]
  | .adcAL => [0x8D#8]
  | .adcAMemHl => [0x8E#8]
  | .adcAA => [0x8F#8]
  | .subB => [0x90#8]
  | .subC => [0x91#8]
  | .subD => [0x92#8]
  | .subE => [0x93#8]
  | .subH => [0x94#8]
  | .subL => [0x95#8]
  | .subMemHl => [0x96#8]
  | .subA => [0x97#8]
  | .sbcAB => [0x98#8]
  | .sbcAC => [0x99#8]
  | .sbcAD => [0x9A#8]
  | .sbcAE => [0x9B#8]
  | .sbcAH => [0x9C#8]
  | .sbcAL => [0x9D#8]
  | .sbcAMemHl => [0x9E#8]
  | .sbcAA => [0x9F#8]
  | .andB => [0xA0#8]
  | .andC => [0xA1#8]
  | .andD => [0xA2#8]
  | .andE => [0xA3#8]
  | .andH => [0xA4#8]
  | .andL => [0xA5#8]
  | .andMemHl => [0xA6#8]
  | .andA => [0xA7#8]
  | .xorB => [0xA8#8]
  | .xorC => [0xA9#8]
  | .xorD => [0xAA#8]
  | .xorE => [0xAB#8]
  | .xorH => [0xAC#8]
  | .xorL => [0xAD#8]
  | .xorMemHl => [0xAE#8]
  | .xorA => [0xAF#8]
  | .orB => [0xB0#8]
  | .orC => [0xB1#8]
  | .orD => [0xB2#8]
  | .orE => [0xB3#8]
  | .orH => [0xB4#8]
  | .orL => [0xB5#8]
  | .orMemHl => [0xB6#8]
  | .orA => [0xB7#8]
  | .cpB => [0xB8#8]
  | .cpC => [0xB9#8]
  | .cpD => [0xBA#8]
  | .cpE => [0xBB#8]
  | .cpH => [0xBC#8]
  | .cpL => [0xBD#8]
  | .cpMemHl => [0xBE#8]
  | .cpA => [0xBF#8]
  | .retNz => [0xC0#8]
  | .popBc => [0xC1#8]
  | .jpNzA16 a16 => [0xC2#8, lowByte a16, highByte a16]
  | .jpA16 a16 => [0xC3#8, lowByte a16, highByte a16]
  | .callNzA16 a16 => [0xC4#8, lowByte a16, highByte a16]
  | .pushBc => [0xC5#8]
  | .addAD8 d8 => [0xC6#8, d8]
  | .rst00 => [0xC7#8]
  | .retZ => [0xC8#8]
  | .ret => [0xC9#8]
  | .jpZA16 a16 => [0xCA#8, lowByte a16, highByte a16]
  | .prefixCb => [0xCB#8]
  | .callZA16 a16 => [0xCC#8, lowByte a16, highByte a16]
  | .callA16 a16 => [0xCD#8, lowByte a16, highByte a16]
  | .adcAD8 d8 => [0xCE#8, d8]
  | .rst08 => [0xCF#8]
  | .retNc => [0xD0#8]
  | .popDe => [0xD1#8]
  | .jpNcA16 a16 => [0xD2#8, lowByte a16, highByte a16]
  | .undefined b => [b]
  | .callNcA16 a16 => [0xD4#8, lowByte a16, highByte a16]
  | .pushDe => [0xD5#8]
  | .subD8 d8 => [0xD6#8, d8]
  | .rst10 => [0xD7#8]
  | .retC => [0xD8#8]
  | .reti => [0xD9#8]
  | .jpCA16 a16 => [0xDA#8, lowByte a16, highByte a16]
  | .callCA16 a16 => [0xDC#8, lowByte a16, highByte a16]
  | .sbcAD8 d8 => [0xDE#8, d8]
  | .rst18 => [0xDF#8]
  | .ldhMemA8A a8 => [0xE0#8, a8]
  | .popHl => [0xE1#8]
  | .ldhMemCA => [0xE2#8]
  | .pushHl => [0xE5#8]
  | .andD8 d8 => [0xE6#8, d8]
  | .rst20 => [0xE7#8]
  | .addSpE8 e8 => [0xE8#8, offsetByte e8]
  | .jpHl => [0xE9#8]
  | .ldMemA16A a16 => [0xEA#8, lowByte a16, highByte a16]
  | .xorD8 d8 => [0xEE#8, d8]
  | .rst28 => [0xEF#8]
  | .ldhAMemA8 a8 => [0xF0#8, a8]
  | .popAf => [0xF1#8]
  | .ldhAMemC => [0xF2#8]
  | .di => [0xF3#8]
  | .pushAf => [0xF5#8]
  | .orD8 d8 => [0xF6#8, d8]
  | .rst30 => [0xF7#8]
  | .ldHlSpE8 e8 => [0xF8#8, offsetByte e8]
  | .ldSpHl => [0xF9#8]
  | .ldAMemA16 a16 => [0xFA#8, lowByte a16, highByte a16]
  | .ei => [0xFB#8]
  | .cpD8 d8 => [0xFE#8, d8]
  | .rst38 => [0xFF#8]
  | .rlcB => [0xCB#8, 0x00#8]
  | .rlcC => [0xCB#8, 0x01#8]
  | .rlcD => [0xCB#8, 0x02#8]
  | .rlcE => [0xCB#8, 0x03#8]
  | .rlcH => [0xCB#8, 0x04#8]
  | .rlcL => [0xCB#8, 0x05#8]
  | .rlcMemHl => [0xCB#8, 0x06#8]
  | .rlcA => [0xCB#8, 0x07#8]
  | .rrcB => [0xCB#8, 0x08#8]
  | .rrcC => [0xCB#8, 0x09#8]
  | .rrcD => [0xCB#8, 0x0A#8]
  | .rrcE => [0xCB#8, 0x0B#8]
  | .rrcH => [0xCB#8, 0x0C#8]
  | .rrcL => [0xCB#8, 0x0D#8]
  | .rrcMemHl => [0xCB#8, 0x0E#8]
  | .rrcA => [0xCB#8, 0x0F#8]
  | .rlB => [0xCB#8, 0x10#8]
  | .rlC => [0xCB#8, 0x11#8]
  | .rlD => [0xCB#8, 0x12#8]
  | .rlE => [0xCB#8, 0x13#8]
  | .rlH => [0xCB#8, 0x14#8]
  | .rlL => [0xCB#8, 0x15#8]
  | .rlMemHl => [0xCB#8, 0x16#8]
  | .rlA => [0xCB#8, 0x17#8]
  | .rrB => [0xCB#8, 0x18#8]
  | .rrC => [0xCB#8, 0x19#8]
  | .rrD => [0xCB#8, 0x1A#8]
  | .rrE => [0xCB#8, 0x1B#8]
  | .rrH => [0xCB#8, 0x1C#8]
  | .rrL => [0xCB#8, 0x1D#8]
  | .rrMemHl => [0xCB#8, 0x1E#8]
  | .rrA => [0xCB#8, 0x1F#8]
  | .slaB => [0xCB#8, 0x20#8]
  | .slaC => [0xCB#8, 0x21#8]
  | .slaD => [0xCB#8, 0x22#8]
  | .slaE => [0xCB#8, 0x23#8]
  | .slaH => [0xCB#8, 0x24#8]
  | .slaL => [0xCB#8, 0x25#8]
  | .slaMemHl => [0xCB#8, 0x26#8]
  | .slaA => [0xCB#8, 0x27#8]
  | .sraB => [0xCB#8, 0x28#8]
  | .sraC => [0xCB#8, 0x29#8]
  | .sraD => [0xCB#8, 0x2A#8]
  | .sraE => [0xCB#8, 0x2B#8]
  | .sraH => [0xCB#8, 0x2C#8]
  | .sraL => [0xCB#8, 0x2D#8]
  | .sraMemHl => [0xCB#8, 0x2E#8]
  | .sraA => [0xCB#8, 0x2F#8]
  | .swapB => [0xCB#8, 0x30#8]
  | .swapC => [0xCB#8, 0x31#8]
  | .swapD => [0xCB#8, 0x32#8]
  | .swapE => [0xCB#8, 0x33#8]
  | .swapH => [0xCB#8, 0x34#8]
  | .swapL => [0xCB#8, 0x35#8]
  | .swapMemHl => [0xCB#8, 0x36#8]
  | .swapA => [0xCB#8, 0x37#8]
  | .srlB => [0xCB#8, 0x38#8]
  | .srlC => [0xCB#8, 0x39#8]
  | .srlD => [0xCB#8, 0x3A#8]
  | .srlE => [0xCB#8, 0x3B#8]
  | .srlH => [0xCB#8, 0x3C#8]
  | .srlL => [0xCB#8, 0x3D#8]
  | .srlMemHl => [0xCB#8, 0x3E#8]
  | .srlA => [0xCB#8, 0x3F#8]
  | .bit0B => [0xCB#8, 0x40#8]
  | .bit0C => [0xCB#8, 0x41#8]
  | .bit0D => [0xCB#8, 0x42#8]
  | .bit0E => [0xCB#8, 0x43#8]
  | .bit0H => [0xCB#8, 0x44#8]
  | .bit0L => [0xCB#8, 0x45#8]
  | .bit0MemHl => [0xCB#8, 0x46#8]
  | .bit0A => [0xCB#8, 0x47#8]
  | .bit1B => [0xCB#8, 0x48#8]
  | .bit1C => [0xCB#8, 0x49#8]
  | .bit1D => [0xCB#8, 0x4A#8]
  | .bit1E => [0xCB#8, 0x4B#8]
  | .bit1H => [0xCB#8, 0x4C#8]
  | .bit1L => [0xCB#8, 0x4D#8]
  | .bit1MemHl => [0xCB#8, 0x4E#8]
  | .bit1A => [0xCB#8, 0x4F#8]
  | .bit2B => [0xCB#8, 0x50#8]
  | .bit2C => [0xCB#8, 0x51#8]
  | .bit2D => [0xCB#8, 0x52#8]
  | .bit2E => [0xCB#8, 0x53#8]
  | .bit2H => [0xCB#8, 0x54#8]
  | .bit2L => [0xCB#8, 0x55#8]
  | .bit2MemHl => [0xCB#8, 0x56#8]
  | .bit2A => [0xCB#8, 0x57#8]
  | .bit3B => [0xCB#8, 0x58#8]
  | .bit3C => [0xCB#8, 0x59#8]
  | .bit3D => [0xCB#8, 0x5A#8]
  | .bit3E => [0xCB#8, 0x5B#8]
  | .bit3H => [0xCB#8, 0x5C#8]
  | .bit3L => [0xCB#8, 0x5D#8]
  | .bit3MemHl => [0xCB#8, 0x5E#8]
  | .bit3A => [0xCB#8, 0x5F#8]
  | .bit4B => [0xCB#8, 0x60#8]
  | .bit4C => [0xCB#8, 0x61#8]
  | .bit4D => [0xCB#8, 0x62#8]
  | .bit4E => [0xCB#8, 0x63#8]
  | .bit4H => [0xCB#8, 0x64#8]
  | .bit4L => [0xCB#8, 0x65#8]
  | .bit4MemHl => [0xCB#8, 0x66#8]
  | .bit4A => [0xCB#8, 0x67#8]
  | .bit5B => [0xCB#8, 0x68#8]
  | .bit5C => [0xCB#8, 0x69#8]
  | .bit5D => [0xCB#8, 0x6A#8]
  | .bit5E => [0xCB#8, 0x6B#8]
  | .bit5H => [0xCB#8, 0x6C#8]
  | .bit5L => [0xCB#8, 0x6D#8]
  | .bit5MemHl => [0xCB#8, 0x6E#8]
  | .bit5A => [0xCB#8, 0x6F#8]
  | .bit6B => [0xCB#8, 0x70#8]
  | .bit6C => [0xCB#8, 0x71#8]
  | .bit6D => [0xCB#8, 0x72#8]
  | .bit6E => [0xCB#8, 0x73#8]
  | .bit6H => [0xCB#8, 0x74#8]
  | .bit6L => [0xCB#8, 0x75#8]
  | .bit6MemHl => [0xCB#8, 0x76#8]
  | .bit6A => [0xCB#8, 0x77#8]
  | .bit7B => [0xCB#8, 0x78#8]
  | .bit7C => [0xCB#8, 0x79#8]
  | .bit7D => [0xCB#8, 0x7A#8]
  | .bit7E => [0xCB#8, 0x7B#8]
  | .bit7H => [0xCB#8, 0x7C#8]
  | .bit7L => [0xCB#8, 0x7D#8]
  | .bit7MemHl => [0xCB#8, 0x7E#8]
  | .bit7A => [0xCB#8, 0x7F#8]
  | .res0B => [0xCB#8, 0x80#8]
  | .res0C => [0xCB#8, 0x81#8]
  | .res0D => [0xCB#8, 0x82#8]
  | .res0E => [0xCB#8, 0x83#8]
  | .res0H => [0xCB#8, 0x84#8]
  | .res0L => [0xCB#8, 0x85#8]
  | .res0MemHl => [0xCB#8, 0x86#8]
  | .res0A => [0xCB#8, 0x87#8]
  | .res1B => [0xCB#8, 0x88#8]
  | .res1C => [0xCB#8, 0x89#8]
  | .res1D => [0xCB#8, 0x8A#8]
  | .res1E => [0xCB#8, 0x8B#8]
  | .res1H => [0xCB#8, 0x8C#8]
  | .res1L => [0xCB#8, 0x8D#8]
  | .res1MemHl => [0xCB#8, 0x8E#8]
  | .res1A => [0xCB#8, 0x8F#8]
  | .res2B => [0xCB#8, 0x90#8]
  | .res2C => [0xCB#8, 0x91#8]
  | .res2D => [0xCB#8, 0x92#8]
  | .res2E => [0xCB#8, 0x93#8]
  | .res2H => [0xCB#8, 0x94#8]
  | .res2L => [0xCB#8, 0x95#8]
  | .res2MemHl => [0xCB#8, 0x96#8]
  | .res2A => [0xCB#8, 0x97#8]
  | .res3B => [0xCB#8, 0x98#8]
  | .res3C => [0xCB#8, 0x99#8]
  | .res3D => [0xCB#8, 0x9A#8]
  | .res3E => [0xCB#8, 0x9B#8]
  | .res3H => [0xCB#8, 0x9C#8]
  | .res3L => [0xCB#8, 0x9D#8]
  | .res3MemHl => [0xCB#8, 0x9E#8]
  | .res3A => [0xCB#8, 0x9F#8]
  | .res4B => [0xCB#8, 0xA0#8]
  | .res4C => [0xCB#8, 0xA1#8]
  | .res4D => [0xCB#8, 0xA2#8]
  | .res4E => [0xCB#8, 0xA3#8]
  | .res4H => [0xCB#8, 0xA4#8]
  | .res4L => [0xCB#8, 0xA5#8]
  | .res4MemHl => [0xCB#8, 0xA6#8]
  | .res4A => [0xCB#8, 0xA7#8]
  | .res5B => [0xCB#8, 0xA8#8]
  | .res5C => [0xCB#8, 0xA9#8]
  | .res5D => [0xCB#8, 0xAA#8]
  | .res5E => [0xCB#8, 0xAB#8]
  | .res5H => [0xCB#8, 0xAC#8]
  | .res5L => [0xCB#8, 0xAD#8]
  | .res5MemHl => [0xCB#8, 0xAE#8]
  | .res5A => [0xCB#8, 0xAF#8]
  | .res6B => [0xCB#8, 0xB0#8]
  | .res6C => [0xCB#8, 0xB1#8]
  | .res6D => [0xCB#8, 0xB2#8]
  | .res6E => [0xCB#8, 0xB3#8]
  | .res6H => [0xCB#8, 0xB4#8]
  | .res6L => [0xCB#8, 0xB5#8]
  | .res6MemHl => [0xCB#8, 0xB6#8]
  | .res6A => [0xCB#8, 0xB7#8]
  | .res7B => [0xCB#8, 0xB8#8]
  | .res7C => [0xCB#8, 0xB9#8]
  | .res7D => [0xCB#8, 0xBA#8]
  | .res7E => [0xCB#8, 0xBB#8]
  | .res7H => [0xCB#8, 0xBC#8]
  | .res7L => [0xCB#8, 0xBD#8]
  | .res7MemHl => [0xCB#8, 0xBE#8]
  | .res7A => [0xCB#8, 0xBF#8]
  | .set0B => [0xCB#8, 0xC0#8]
  | .set0C => [0xCB#8, 0xC1#8]
  | .set0D => [0xCB#8, 0xC2#8]
  | .set0E => [0xCB#8, 0xC3#8]
  | .set0H => [0xCB#8, 0xC4#8]
  | .set0L => [0xCB#8, 0xC5#8]
  | .set0MemHl => [0xCB#8, 0xC6#8]
  | .set0A => [0xCB#8, 0xC7#8]
  | .set1B => [0xCB#8, 0xC8#8]
  | .set1C => [0xCB#8, 0xC9#8]
  | .set1D => [0xCB#8, 0xCA#8]
  | .set1E => [0xCB#8, 0xCB#8]
  | .set1H => [0xCB#8, 0xCC#8]
  | .set1L => [0xCB#8, 0xCD#8]
  | .set1MemHl => [0xCB#8, 0xCE#8]
  | .set1A => [0xCB#8, 0xCF#8]
  | .set2B => [0xCB#8, 0xD0#8]
  | .set2C => [0xCB#8, 0xD1#8]
  | .set2D => [0xCB#8, 0xD2#8]
  | .set2E => [0xCB#8, 0xD3#8]
  | .set2H => [0xCB#8, 0xD4#8]
  | .set2L => [0xCB#8, 0xD5#8]
  | .set2MemHl => [0xCB#8, 0xD6#8]
  | .set2A => [0xCB#8, 0xD7#8]
  | .set3B => [0xCB#8, 0xD8#8]
  | .set3C => [0xCB#8, 0xD9#8]
  | .set3D => [0xCB#8, 0xDA#8]
  | .set3E => [0xCB#8, 0xDB#8]
  | .set3H => [0xCB#8, 0xDC#8]
  | .set3L => [0xCB#8, 0xDD#8]
  | .set3MemHl => [0xCB#8, 0xDE#8]
  | .set3A => [0xCB#8, 0xDF#8]
  | .set4B => [0xCB#8, 0xE0#8]
  | .set4C => [0xCB#8, 0xE1#8]
  | .set4D => [0xCB#8, 0xE2#8]
  | .set4E => [0xCB#8, 0xE3#8]
  | .set4H => [0xCB#8, 0xE4#8]
  | .set4L => [0xCB#8, 0xE5#8]
  | .set4MemHl => [0xCB#8, 0xE6#8]
  | .set4A => [0xCB#8, 0xE7#8]
  | .set5B => [0xCB#8, 0xE8#8]
  | .set5C => [0xCB#8, 0xE9#8]
  | .set5D => [0xCB#8, 0xEA#8]
  | .set5E => [0xCB#8, 0xEB#8]
  | .set5H => [0xCB#8, 0xEC#8]
  | .set5L => [0xCB#8, 0xED#8]
  | .set5MemHl => [0xCB#8, 0xEE#8]
  | .set5A => [0xCB#8, 0xEF#8]
  | .set6B => [0xCB#8, 0xF0#8]
  | .set6C => [0xCB#8, 0xF1#8]
  | .set6D => [0xCB#8, 0xF2#8]
  | .set6E => [0xCB#8, 0xF3#8]
  | .set6H => [0xCB#8, 0xF4#8]
  | .set6L => [0xCB#8, 0xF5#8]
  | .set6MemHl => [0xCB#8, 0xF6#8]
  | .set6A => [0xCB#8, 0xF7#8]
  | .set7B => [0xCB#8, 0xF8#8]
  | .set7C => [0xCB#8, 0xF9#8]
  | .set7D => [0xCB#8, 0xFA#8]
  | .set7E => [0xCB#8, 0xFB#8]
  | .set7H => [0xCB#8, 0xFC#8]
  | .set7L => [0xCB#8, 0xFD#8]
  | .set7MemHl => [0xCB#8, 0xFE#8]
  | .set7A => [0xCB#8, 0xFF#8]

/-! ## The opcode table's words -/

/-- The bytes of a table word, first byte first, completed with zero bytes to the longest instruction. A 16-bit word
whose high byte is the escape is numbered as R112 numbers the extended rows, `256 * b0 + b1`; every other word has its
first byte in bits 7..0. Log entry 6. -/
def tableBytes (nbits w : Nat) : List Byte :=
  let v := w % 2 ^ nbits
  if nbits = 16 ∧ v / 256 = 0xCB then [escapeByte, BitVec.ofNat 8 v, 0#8]
  else [BitVec.ofNat 8 v, BitVec.ofNat 8 (v / 256), BitVec.ofNat 8 (v / 65536)]

/-- The row the decoder reads from a word of `spec/opcode_table.json`. -/
def decodeTableWord (nbits w : Nat) : Option Instr :=
  match decode (tableBytes nbits w) with
  | .ok (i, _) => some i
  | .error _ => none

end Sys2Proof
end

