-- ==== Sys2Proof/Machine/State.lean ====
section
/-! DEFINITION. The state of one instance of the block: the ROM buffer the host supplied, one streaming cursor
(`spec/10_state.md` R24 to R26), and the two ends of its request and response interface (R40). -/

namespace Sys2Proof.Machine

open Sys2Proof

/-- The ROM's contents, in one canonical form: addresses strictly rising, no entry equal to the byte an unlisted address
reads as (`Memory.wf`, Machine/Ops.lean). -/
abbrev Memory := List Host.Cell

/-- `ST`, the cursor's control state (`spec/10_state.md` R25). -/
inductive CursorState where
  | positioned
  | exhausted
  deriving DecidableEq, Repr, Inhabited

/-- The operations that run the instruction decoder: a direct `DECODE(off)`, the silent `NEXT`, the explicit-error
`NEXT_E` (`spec/10_state.md` R40). -/
inductive DecodeOp where
  | direct (off : Nat)
  | next
  | nextE
  deriving DecidableEq, Repr, Inhabited

/-- A request of the host: the six operations of `spec/10_state.md` R40. -/
inductive Request where
  | parseHeader
  | validate (h : HeaderRecord)
  | decode (off : Nat)
  | init (start : Nat)
  | next
  | nextE
  deriving DecidableEq, Repr, Inhabited

/-- What an operation returns (the outcome column of `spec/10_state.md` R40). `INIT` returns nothing. -/
inductive Response where
  /-- `PARSE_HEADER = Ok(h)` -/
  | headerOk (h : HeaderRecord)
  /-- `PARSE_HEADER = Err(e)` -/
  | headerErr (e : Error)
  /-- `VALIDATE = Ok` -/
  | valid
  /-- `VALIDATE = Err(v)` -/
  | invalid (v : ValidationError)
  /-- `DECODE = Ok(i, consumed)` -/
  | decodeOk (i : Instruction) (consumed : Nat)
  /-- `DECODE = Err(e)` -/
  | decodeErr (e : Error)
  /-- `NEXT = Some(i)` -/
  | nextSome (i : Instruction)
  /-- `NEXT = None` -/
  | nextNone
  /-- `NEXT_E = Item(i)` -/
  | item (i : Instruction)
  /-- `NEXT_E = End(e)` -/
  | ended (e : Error)
  deriving DecidableEq, Repr, Inhabited

/-- One instance of the block. Plain data; the spec's own state is `pos`, `st`, `cause` over the parameters `rom` and
`len`, and the other fields are the model's (INVENTORY.md, State). -/
structure State where
  /-- `ROM` (`spec/00_scope.md` R9, `spec/20_memory.md` R50): supplied by the host, never written by the block -/
  rom : Memory
  /-- `LEN` (R9): the number of bytes of the buffer -/
  len : Nat
  /-- `POS`, the cursor's read position (`spec/10_state.md` R24) -/
  pos : Nat
  /-- `ST` (R25) -/
  st : CursorState
  /-- `CAUSE`, why the cursor became exhausted (R26) -/
  cause : Error
  /-- whether any `INIT` has constructed the cursor (`spec/48_stream_cursor.md` R322, `spec/10_state.md` R45) -/
  constructed : Bool
  /-- the model's own: how many free values have been drawn (log entry 3) -/
  freeCount : Nat
  /-- the model's own: the decoding operation being served, or the last one served (log entry 2) -/
  op : DecodeOp
  /-- the model's own: the host's pending requests, oldest first (log entry 2) -/
  requests : List Request
  /-- the model's own: the responses handed to the host, newest first (log entry 2) -/
  delivered : List Response
  deriving DecidableEq, Repr

/-- Why the machine could stop with a fault. It has no constructor: "No operation panics, aborts, hangs, reads out of
bounds or returns a guessed result", and a failure is a returned value, not a trap (`spec/60_exceptions.md` R348, R360).
Nobody raises it. -/
inductive Fault where
  deriving DecidableEq, Repr

/-- Why a step is given no meaning. -/
inductive Refusal where
  /-- Raised by a dispatch arm whose instruction has no meaning yet. Safe: it proves nothing about the instruction.
  No arm raises it. -/
  | notModelled (mnemonic : String)
  /-- Raised by `NEXT` and `NEXT_E` on a cursor no `INIT` has constructed: "The model refuses them: it gives them no
  outcome and no proof may rely on one" (`spec/48_stream_cursor.md` R322). Safe. -/
  | cursorNeverConstructed
  deriving DecidableEq, Repr

/-- An instance before any `INIT`: the given buffer and a cursor that was never constructed, whose registers the spec
leaves unspecified (`spec/10_state.md` R45); the values here are the model's (log entry 1). -/
def State.unconstructed (rom : Memory) (len : Nat) : State where
  rom := rom
  len := len
  pos := 0
  st := .positioned
  cause := .outOfData
  constructed := false
  freeCount := 0
  op := .next
  requests := []
  delivered := []

/-- The machine right after reset. Reset is the construction of a cursor, `INIT(start)` (`spec/70_reset_and_hazards.md`
R380, R381): `POS = start`, `ST = positioned`, `CAUSE` unspecified. The host has supplied no byte yet (`LEN = 0`) and
`start = 0`; these two parameters and the value of `CAUSE` are the model's choice (log entry 1). -/
def State.reset : State where
  rom := []
  len := 0
  pos := 0
  st := .positioned
  cause := .outOfData
  constructed := true
  freeCount := 0
  op := .next
  requests := []
  delivered := []

end Sys2Proof.Machine
end

