-- ==== Sys2Proof/Machine/Flags.lean ====
section
/-! DEFINITION. The block has no condition codes and no arithmetic flags; its only status flag is `ST`
(`spec/10_state.md` R28). Every read of `ST` and every change of it goes through this file. -/

namespace Sys2Proof.Machine

open Sys2Proof

/-- Whether the cursor is exhausted, the terminal state (`spec/10_state.md` R25; `spec/48_stream_cursor.md` R328). -/
def State.isExhausted (s : State) : Bool := s.st == .exhausted

/-- `ST <- exhausted ; CAUSE <- e`, with `POS` left where it is (`spec/48_stream_cursor.md` R325). -/
def State.setExhausted (s : State) (e : Error) : State := { s with st := .exhausted, cause := e }

/-- `ST <- positioned` (`spec/48_stream_cursor.md` R321). `CAUSE` is left unspecified there: it becomes a free value,
a fresh one for every construction (log entry 3). -/
def State.setPositioned (s : State) : State :=
  { s with st := .positioned, cause := Config.freeCause s.freeCount, freeCount := s.freeCount + 1 }

end Sys2Proof.Machine
end

