-- ==== Sys2Proof/Machine/Operands.lean ====
section
/-! DEFINITION. The operand forms of the encodings (`spec/30_encoding.md` R81, R91, R95) and the two byte orders of a
16-bit field (`spec/20_memory.md` R56). The decoder's own helpers (`le16`, `sint8`, the selectors) stand in Decode.lean. -/

namespace Sys2Proof.Machine

open Sys2Proof

/-- The formats of an encoded instruction (`spec/30_encoding.md` R81). -/
inductive Format where
  | op | opD8 | opE8 | opA8 | opD16 | opA16 | cbOp | esc | undef
  deriving DecidableEq, Repr, Inhabited

/-- `be16(b0, b1) = 256 * b0 + b1`: the first byte in the ROM is the high half (`spec/45_alu.md` R273). -/
def be16 (b0 b1 : Byte) : Word := BitVec.ofNat 16 (256 * b0.toNat + b1.toNat)

/-- The byte order of a 16-bit field (`spec/20_memory.md` R56). -/
inductive ByteOrder where
  | le
  | be
  deriving DecidableEq, Repr, Inhabited

/-- The number two bytes make under a byte order (`spec/40_field_readers.md` R122). -/
def word16 : ByteOrder → Byte → Byte → Word
  | .le, b0, b1 => le16 b0 b1
  | .be, b0, b1 => be16 b0 b1

/-- Bytes whose operand is an 8-bit immediate (`spec/30_encoding.md` R91). -/
def immediateBytes : List Byte :=
  [0x06#8, 0x0E#8, 0x16#8, 0x1E#8, 0x26#8, 0x2E#8, 0x36#8, 0x3E#8] ++
  [0xC6#8, 0xCE#8, 0xD6#8, 0xDE#8, 0xE6#8, 0xEE#8, 0xF6#8, 0xFE#8]

/-- Bytes whose operand is a signed offset: the relative jumps and the two stack-pointer forms (R91). -/
def offsetBytes : List Byte := [0x18#8, 0x20#8, 0x28#8, 0x30#8, 0x38#8] ++ [0xE8#8, 0xF8#8]

/-- Bytes whose operand is a high-page offset (R91). -/
def highPageBytes : List Byte := [0xE0#8, 0xF0#8]

/-- Bytes whose operand is a 16-bit immediate (R91). -/
def wideImmediateBytes : List Byte := [0x01#8, 0x11#8, 0x21#8, 0x31#8]

/-- Bytes whose operand is an absolute address: loads and stores, jumps, calls (R91). -/
def addressBytes : List Byte :=
  [0x08#8, 0xEA#8, 0xFA#8] ++ [0xC2#8, 0xCA#8, 0xD2#8, 0xDA#8, 0xC3#8] ++
  [0xC4#8, 0xCC#8, 0xD4#8, 0xDC#8, 0xCD#8]

/-- The format a primary byte selects (`spec/30_encoding.md` R81, R83, R91, R100). -/
def formatOf (b0 : Byte) : Format :=
  if b0 = escapeByte then .esc
  else if undefinedBytes.contains b0 then .undef
  else if immediateBytes.contains b0 then .opD8
  else if offsetBytes.contains b0 then .opE8
  else if highPageBytes.contains b0 then .opA8
  else if wideImmediateBytes.contains b0 then .opD16
  else if addressBytes.contains b0 then .opA16
  else .op

end Sys2Proof.Machine
end

