-- ==== Sys2Proof/Machine/Classes.lean ====
section
/-! DEFINITION. The tables `PRIMARY` and `EXT` of `spec/42_decoder_top.md` R170 at the level of CLASSES: the
`Instruction` value each encoding returns, by the encoding formulas of the instruction rules (files 43 to 47 of `spec/`).
They are written apart from the row decoder of Decode.lean; that the two agree is an obligation. -/

namespace Sys2Proof.Machine

open Sys2Proof

/-- Entry `b1` of the extended table `EXT` (`spec/30_encoding.md` R97; `spec/47_extended.md` R300 to R311). -/
def extendedEntry (b1 : Byte) : Instruction :=
  let r := reg8 (fieldZ b1)
  if b1.toNat < 0x08 then .rlc r
  else if b1.toNat < 0x10 then .rrc r
  else if b1.toNat < 0x18 then .rl r
  else if b1.toNat < 0x20 then .rr r
  else if b1.toNat < 0x28 then .sla r
  else if b1.toNat < 0x30 then .sra r
  else if b1.toNat < 0x38 then .swap r
  else if b1.toNat < 0x40 then .srl r
  else if b1.toNat < 0x80 then .bit (fieldY b1).toFin r
  else if b1.toNat < 0xC0 then .res (fieldY b1).toFin r
  else .set (fieldY b1).toFin r

/-- The class of ALU operation `o` on a register operand (`spec/45_alu.md` R251 to R258). -/
def aluClass (o : AluOp) (r : Register8) : Instruction :=
  match o with
  | .add => .add r | .adc => .adc r | .sub => .sub r | .sbc => .sbc r
  | .and => .and r | .xor => .xor r | .or => .or r | .cp => .cp r

/-- The class of ALU operation `o` on an immediate byte (`spec/45_alu.md` R259 to R266). -/
def aluImmClass (o : AluOp) (d8 : Byte) : Instruction :=
  match o with
  | .add => .addImm d8 | .adc => .adcImm d8 | .sub => .subImm d8 | .sbc => .sbcImm d8
  | .and => .andImm d8 | .xor => .xorImm d8 | .or => .orImm d8 | .cp => .cpImm d8

/-- The no-operand forms of `spec/43_control_misc.md` R191 to R207, by their byte. -/
def controlClasses : List (Byte × Instruction) :=
  [(0x00#8, .nop), (0x10#8, .stop), (0x76#8, .halt), (0xF3#8, .di), (0xFB#8, .ei), (0xC9#8, .ret), (0xD9#8, .reti),
   (0xE9#8, .jpHl), (0xF9#8, .ldSpHl), (0x07#8, .rlca), (0x0F#8, .rrca), (0x17#8, .rla), (0x1F#8, .rra),
   (0x27#8, .daa), (0x2F#8, .cpl), (0x37#8, .scf), (0x3F#8, .ccf)]

/-- The no-operand forms of `spec/44_loads.md` R226 to R229, R232, R233, by their byte. -/
def pointerClasses : List (Byte × Instruction) :=
  [(0x22#8, .stAHli), (0x32#8, .stAHld), (0x2A#8, .ldAHli), (0x3A#8, .ldAHld), (0xE2#8, .stAHighC), (0xF2#8, .ldAHighC)]

/-- The one-byte forms that stand alone in the table. -/
def soloClasses : List (Byte × Instruction) := List.append controlClasses pointerClasses

/-- The class of a byte of format `OP`: the solo forms; the move and ALU ranges (`spec/30_encoding.md` R84, R85); and
the families whose byte is `base + 8 * y` or `base + 16 * p` (`spec/44_loads.md` R224, R225, R238, R239;
`spec/45_alu.md` R267 to R271; `spec/46_flow.md` R287, R288). -/
def plainClass (b0 : Byte) : Instruction :=
  match soloClasses.lookup b0 with
  | some i => i
  | none =>
    if 0x40 ≤ b0.toNat ∧ b0.toNat ≤ 0x7F then .ldR8R8 (reg8 (fieldY b0)) (reg8 (fieldZ b0))
    else if 0x80 ≤ b0.toNat ∧ b0.toNat ≤ 0xBF then aluClass (aluOp (fieldY b0)) (reg8 (fieldZ b0))
    else if [0x02#8, 0x12#8].contains b0 then .stAInd (reg16Sp (fieldP b0))
    else if [0x0A#8, 0x1A#8].contains b0 then .ldAInd (reg16Sp (fieldP b0))
    else if [0x03#8, 0x13#8, 0x23#8, 0x33#8].contains b0 then .inc16 (reg16Sp (fieldP b0))
    else if [0x0B#8, 0x1B#8, 0x2B#8, 0x3B#8].contains b0 then .dec16 (reg16Sp (fieldP b0))
    else if [0x09#8, 0x19#8, 0x29#8, 0x39#8].contains b0 then .addHl (reg16Sp (fieldP b0))
    else if [0xC5#8, 0xD5#8, 0xE5#8, 0xF5#8].contains b0 then .push (reg16Af (fieldP b0))
    else if [0xC1#8, 0xD1#8, 0xE1#8, 0xF1#8].contains b0 then .pop (reg16Af (fieldP b0))
    else if [0xC0#8, 0xC8#8, 0xD0#8, 0xD8#8].contains b0 then .retCc (condOf (b0.extractLsb' 3 2))
    else if b0.toNat % 8 = 7 then .rst (b0 &&& 0x38#8)
    else if b0.toNat % 8 = 4 then .inc8 (reg8 (fieldY b0))
    else .dec8 (reg8 (fieldY b0))

/-- The class of a byte of format `OP_D8` (`spec/44_loads.md` R221; `spec/45_alu.md` R259 to R266). -/
def immediateClass (b0 d8 : Byte) : Instruction :=
  if b0.toNat < 0x40 then .ldR8Imm (reg8 (fieldY b0)) d8 else aluImmClass (aluOp (fieldY b0)) d8

/-- The class of a byte of format `OP_A8` (`spec/44_loads.md` R230, R231). -/
def highPageClass (b0 a8 : Byte) : Instruction := if b0 = 0xE0#8 then .stAHigh a8 else .ldAHigh a8

/-- The class of a byte of format `OP_E8` (`spec/44_loads.md` R237; `spec/45_alu.md` R272; `spec/46_flow.md` R281, R282). -/
def offsetClass (b0 : Byte) (e8 : Int) : Instruction :=
  if b0 = 0x18#8 then .jr e8
  else if b0 = 0xE8#8 then .addSpOff e8
  else if b0 = 0xF8#8 then .ldHlSpOff e8
  else .jrCc (condOf (b0.extractLsb' 3 2)) e8

/-- The class of a byte of format `OP_D16` (`spec/44_loads.md` R222). -/
def wideImmediateClass (b0 : Byte) (d16 : Word) : Instruction := .ldR16Imm (reg16Sp (fieldP b0)) d16

/-- The class of a byte of format `OP_A16` (`spec/44_loads.md` R234 to R236; `spec/46_flow.md` R283 to R286). -/
def addressClass (b0 : Byte) (a16 : Word) : Instruction :=
  if b0 = 0x08#8 then .stSpAbs a16
  else if b0 = 0xEA#8 then .stAAbs a16
  else if b0 = 0xFA#8 then .ldAAbs a16
  else if b0 = 0xC3#8 then .jp a16
  else if b0 = 0xCD#8 then .call a16
  else if b0.toNat % 8 = 2 then .jpCc (condOf (b0.extractLsb' 3 2)) a16
  else .callCc (condOf (b0.extractLsb' 3 2)) a16

end Sys2Proof.Machine
end

