-- ==== Sys2Proof/Machine/Ops.lean ====
section
/-! DEFINITION. The named operations over the ROM buffer, the cursor and the response interface. Everything an
instruction's meaning does, it does through `deliver`, `raise` or (the escape row) a read of the next byte. -/

namespace Sys2Proof.Machine

open Sys2Proof

/-! ## The ROM buffer -/

/-- What an address with no entry reads as. A representation only: every ROM has exactly one canonical list, and no
byte at or beyond `LEN` is ever read (`spec/20_memory.md` R50, R55). Log entry 5. -/
def Memory.blankByte : Byte := 0x00#8

/-- The byte at an address. -/
def Memory.read : Memory → Nat → Byte
  | [], _ => Memory.blankByte
  | (k, v) :: m, a => if k = a then v else Memory.read m a

/-- The memory with one byte placed, in canonical form again. The block never writes its ROM (`spec/20_memory.md` R52):
this is how the host's buffer is written down. -/
def Memory.write : Memory → Nat → Byte → Memory
  | [], a, v => if v = Memory.blankByte then [] else [(a, v)]
  | (k, w) :: m, a, v =>
    if a < k then (if v = Memory.blankByte then (k, w) :: m else (a, v) :: (k, w) :: m)
    else if a = k then (if v = Memory.blankByte then m else (a, v) :: m)
    else (k, w) :: Memory.write m a v

/-- The memory with a run of bytes placed from an address on. -/
def Memory.writeBytes : Memory → Nat → List Byte → Memory
  | m, _, [] => m
  | m, a, b :: bs => Memory.writeBytes (Memory.write m a b) (a + 1) bs

/-- Canonical from address `lo` on: addresses strictly rising, no entry equal to the blank byte. -/
def Memory.wfFrom : Nat → Memory → Bool
  | _, [] => true
  | lo, (k, v) :: m => decide (lo ≤ k) && decide (v ≠ Memory.blankByte) && Memory.wfFrom (k + 1) m

/-- The canonical form. -/
def Memory.wf (m : Memory) : Bool := Memory.wfFrom 0 m

/-- Every entry lies below `n`: a buffer of `LEN` bytes lists nothing at or beyond `LEN`. -/
def Memory.below (m : Memory) (n : Nat) : Bool := m.all fun cell => decide (cell.1 < n)

/-- The byte at an offset, which exists exactly below `LEN` (`spec/20_memory.md` R50). -/
def State.byteAt (s : State) (off : Nat) : Option Byte := if off < s.len then some (s.rom.read off) else none

/-- `n` bytes of the buffer in increasing offset order. -/
def State.bytesFrom (s : State) : Nat → Nat → List Byte
  | _, 0 => []
  | off, n + 1 => s.rom.read off :: s.bytesFrom (off + 1) n

/-- `MemRead(addr, n)`, the only read of the ROM (`spec/20_memory.md` R55). -/
def State.memRead (s : State) (addr n : Nat) : Except Error (List Byte) :=
  if addr + n ≤ s.len then .ok (s.bytesFrom addr n) else .error .outOfData

/-- The first bytes of the slice `ROM[off .. LEN-1]`, as many as exist up to the longest instruction's three
(`spec/42_decoder_top.md` R170; `spec/30_encoding.md` R80). -/
def State.window (s : State) (off : Nat) : List Byte := s.bytesFrom off (min 3 (s.len - off))

/-- The instance with another buffer, before it is used: the host fixes `ROM` and `LEN`
(`spec/70_reset_and_hazards.md` R385). No step of the machine does this. -/
def State.withRom (s : State) (bytes : List Byte) : State :=
  { s with rom := Memory.writeBytes [] 0 bytes, len := bytes.length }

/-! ## Responses and the cursor -/

/-- Hand a response to the host. -/
def State.respond (s : State) (r : Response) : State := { s with delivered := r :: s.delivered }

/-- `POS <- POS + consumed` (`spec/48_stream_cursor.md` R324). -/
def State.advance (s : State) (consumed : Nat) : State := { s with pos := s.pos + consumed }

/-- The offset of the opcode byte the operation being served decodes: the operand of `DECODE`, else `POS`
(`spec/48_stream_cursor.md` R323). -/
def State.fetchOffset (s : State) : Nat :=
  match s.op with
  | .direct off => off
  | .next | .nextE => s.pos

/-- A successful decode under the operation being served: `DECODE` returns `Ok(i, consumed)` and writes nothing
(`spec/42_decoder_top.md` R170); `NEXT` and `NEXT_E` advance and yield (`spec/48_stream_cursor.md` R323, R324, R326). -/
def State.yield (s : State) (i : Instruction) (consumed : Nat) : State :=
  match s.op with
  | .direct _ => s.respond (.decodeOk i consumed)
  | .next => (s.advance consumed).respond (.nextSome i)
  | .nextE => (s.advance consumed).respond (.item i)

/-- TAKING A FAILURE, the block's only exception: what a `raise e` inside `DECODE` does to the operation being served
(`spec/60_exceptions.md` R360, R361). A direct `DECODE` returns `Err(e)` and no state changes; under the cursor
`ST <- exhausted`, `CAUSE <- e`, `POS` stays at the byte that failed (`spec/48_stream_cursor.md` R325), and `NEXT`
returns `None`, `NEXT_E` returns `End(e)`. There is no vector and no handler, and no return from it (R365): the one way
out of `exhausted` is `initCursor`. -/
def State.raise (s : State) (e : Error) : State :=
  match s.op with
  | .direct _ => s.respond (.decodeErr e)
  | .next => (s.setExhausted e).respond .nextNone
  | .nextE => (s.setExhausted e).respond (.ended e)

/-- `INIT(start)`, the construction of a fresh cursor (`spec/48_stream_cursor.md` R321). -/
def State.initCursor (s : State) (start : Nat) : State :=
  if start ≤ s.len then { s.setPositioned with pos := start, constructed := true }
  else { s.setExhausted .outOfData with pos := s.len, constructed := true }

/-- The shared meaning of the rows that decode to an instruction. -/
def deliver (i : Instruction) (consumed : Nat) (s : State) : Host.Outcome State Fault Refusal :=
  .next (s.yield i consumed)

/-- The shared meaning of the rows on which `DECODE` fails. -/
def fail (e : Error) (s : State) : Host.Outcome State Fault Refusal := .next (s.raise e)

/-- The instance with the given bytes placed at `POS` and a positioned cursor asked for `NEXT`: the very next step
decodes them. It stands for the host's loading of a buffer, its `INIT` and its request (log entry 6). -/
def State.placeAtCursor (s : State) (bytes : List Byte) : State :=
  { s with
    rom := Memory.writeBytes s.rom s.pos bytes
    len := max s.len (s.pos + bytes.length)
    st := .positioned
    constructed := true
    requests := .next :: s.requests }

end Sys2Proof.Machine
end

