-- ==== Sys2Proof/Machine/Alu.lean ====
section
/-! DEFINITION. The meanings of the arithmetic and logic forms (`spec/45_alu.md`): decoding one yields its class and payload and
consumes its bytes, through `deliver`. The block computes none of these operations
and tracks no flag (R250, R273). -/

namespace Sys2Proof.Machine

open Sys2Proof

/-- `INC BC`, 0x03 (R269). -/
def execIncBc (s : State) : Host.Outcome State Fault Refusal := deliver (.inc16 .bc) 1 s

/-- `INC B`, 0x04 (R267). -/
def execIncB (s : State) : Host.Outcome State Fault Refusal := deliver (.inc8 .b) 1 s

/-- `DEC B`, 0x05 (R268). -/
def execDecB (s : State) : Host.Outcome State Fault Refusal := deliver (.dec8 .b) 1 s

/-- `ADD HL,BC`, 0x09 (R271). -/
def execAddHlBc (s : State) : Host.Outcome State Fault Refusal := deliver (.addHl .bc) 1 s

/-- `DEC BC`, 0x0B (R270). -/
def execDecBc (s : State) : Host.Outcome State Fault Refusal := deliver (.dec16 .bc) 1 s

/-- `INC C`, 0x0C (R267). -/
def execIncC (s : State) : Host.Outcome State Fault Refusal := deliver (.inc8 .c) 1 s

/-- `DEC C`, 0x0D (R268). -/
def execDecC (s : State) : Host.Outcome State Fault Refusal := deliver (.dec8 .c) 1 s

/-- `INC DE`, 0x13 (R269). -/
def execIncDe (s : State) : Host.Outcome State Fault Refusal := deliver (.inc16 .de) 1 s

/-- `INC D`, 0x14 (R267). -/
def execIncD (s : State) : Host.Outcome State Fault Refusal := deliver (.inc8 .d) 1 s

/-- `DEC D`, 0x15 (R268). -/
def execDecD (s : State) : Host.Outcome State Fault Refusal := deliver (.dec8 .d) 1 s

/-- `ADD HL,DE`, 0x19 (R271). -/
def execAddHlDe (s : State) : Host.Outcome State Fault Refusal := deliver (.addHl .de) 1 s

/-- `DEC DE`, 0x1B (R270). -/
def execDecDe (s : State) : Host.Outcome State Fault Refusal := deliver (.dec16 .de) 1 s

/-- `INC E`, 0x1C (R267). -/
def execIncE (s : State) : Host.Outcome State Fault Refusal := deliver (.inc8 .e) 1 s

/-- `DEC E`, 0x1D (R268). -/
def execDecE (s : State) : Host.Outcome State Fault Refusal := deliver (.dec8 .e) 1 s

/-- `INC HL`, 0x23 (R269). -/
def execIncHl (s : State) : Host.Outcome State Fault Refusal := deliver (.inc16 .hl) 1 s

/-- `INC H`, 0x24 (R267). -/
def execIncH (s : State) : Host.Outcome State Fault Refusal := deliver (.inc8 .h) 1 s

/-- `DEC H`, 0x25 (R268). -/
def execDecH (s : State) : Host.Outcome State Fault Refusal := deliver (.dec8 .h) 1 s

/-- `ADD HL,HL`, 0x29 (R271). -/
def execAddHlHl (s : State) : Host.Outcome State Fault Refusal := deliver (.addHl .hl) 1 s

/-- `DEC HL`, 0x2B (R270). -/
def execDecHl (s : State) : Host.Outcome State Fault Refusal := deliver (.dec16 .hl) 1 s

/-- `INC L`, 0x2C (R267). -/
def execIncL (s : State) : Host.Outcome State Fault Refusal := deliver (.inc8 .l) 1 s

/-- `DEC L`, 0x2D (R268). -/
def execDecL (s : State) : Host.Outcome State Fault Refusal := deliver (.dec8 .l) 1 s

/-- `INC SP`, 0x33 (R269). -/
def execIncSp (s : State) : Host.Outcome State Fault Refusal := deliver (.inc16 .sp) 1 s

/-- `INC [HL]`, 0x34 (R267). -/
def execIncMemHl (s : State) : Host.Outcome State Fault Refusal := deliver (.inc8 .hlInd) 1 s

/-- `DEC [HL]`, 0x35 (R268). -/
def execDecMemHl (s : State) : Host.Outcome State Fault Refusal := deliver (.dec8 .hlInd) 1 s

/-- `ADD HL,SP`, 0x39 (R271). -/
def execAddHlSp (s : State) : Host.Outcome State Fault Refusal := deliver (.addHl .sp) 1 s

/-- `DEC SP`, 0x3B (R270). -/
def execDecSp (s : State) : Host.Outcome State Fault Refusal := deliver (.dec16 .sp) 1 s

/-- `INC A`, 0x3C (R267). -/
def execIncA (s : State) : Host.Outcome State Fault Refusal := deliver (.inc8 .a) 1 s

/-- `DEC A`, 0x3D (R268). -/
def execDecA (s : State) : Host.Outcome State Fault Refusal := deliver (.dec8 .a) 1 s

/-- `ADD A,B`, 0x80 (R251). -/
def execAddAB (s : State) : Host.Outcome State Fault Refusal := deliver (.add .b) 1 s

/-- `ADD A,C`, 0x81 (R251). -/
def execAddAC (s : State) : Host.Outcome State Fault Refusal := deliver (.add .c) 1 s

/-- `ADD A,D`, 0x82 (R251). -/
def execAddAD (s : State) : Host.Outcome State Fault Refusal := deliver (.add .d) 1 s

/-- `ADD A,E`, 0x83 (R251). -/
def execAddAE (s : State) : Host.Outcome State Fault Refusal := deliver (.add .e) 1 s

/-- `ADD A,H`, 0x84 (R251). -/
def execAddAH (s : State) : Host.Outcome State Fault Refusal := deliver (.add .h) 1 s

/-- `ADD A,L`, 0x85 (R251). -/
def execAddAL (s : State) : Host.Outcome State Fault Refusal := deliver (.add .l) 1 s

/-- `ADD A,[HL]`, 0x86 (R251). -/
def execAddAMemHl (s : State) : Host.Outcome State Fault Refusal := deliver (.add .hlInd) 1 s

/-- `ADD A,A`, 0x87 (R251). -/
def execAddAA (s : State) : Host.Outcome State Fault Refusal := deliver (.add .a) 1 s

/-- `ADC A,B`, 0x88 (R252). -/
def execAdcAB (s : State) : Host.Outcome State Fault Refusal := deliver (.adc .b) 1 s

/-- `ADC A,C`, 0x89 (R252). -/
def execAdcAC (s : State) : Host.Outcome State Fault Refusal := deliver (.adc .c) 1 s

/-- `ADC A,D`, 0x8A (R252). -/
def execAdcAD (s : State) : Host.Outcome State Fault Refusal := deliver (.adc .d) 1 s

/-- `ADC A,E`, 0x8B (R252). -/
def execAdcAE (s : State) : Host.Outcome State Fault Refusal := deliver (.adc .e) 1 s

/-- `ADC A,H`, 0x8C (R252). -/
def execAdcAH (s : State) : Host.Outcome State Fault Refusal := deliver (.adc .h) 1 s

/-- `ADC A,L`, 0x8D (R252). -/
def execAdcAL (s : State) : Host.Outcome State Fault Refusal := deliver (.adc .l) 1 s

/-- `ADC A,[HL]`, 0x8E (R252). -/
def execAdcAMemHl (s : State) : Host.Outcome State Fault Refusal := deliver (.adc .hlInd) 1 s

/-- `ADC A,A`, 0x8F (R252). -/
def execAdcAA (s : State) : Host.Outcome State Fault Refusal := deliver (.adc .a) 1 s

/-- `SUB B`, 0x90 (R253). -/
def execSubB (s : State) : Host.Outcome State Fault Refusal := deliver (.sub .b) 1 s

/-- `SUB C`, 0x91 (R253). -/
def execSubC (s : State) : Host.Outcome State Fault Refusal := deliver (.sub .c) 1 s

/-- `SUB D`, 0x92 (R253). -/
def execSubD (s : State) : Host.Outcome State Fault Refusal := deliver (.sub .d) 1 s

/-- `SUB E`, 0x93 (R253). -/
def execSubE (s : State) : Host.Outcome State Fault Refusal := deliver (.sub .e) 1 s

/-- `SUB H`, 0x94 (R253). -/
def execSubH (s : State) : Host.Outcome State Fault Refusal := deliver (.sub .h) 1 s

/-- `SUB L`, 0x95 (R253). -/
def execSubL (s : State) : Host.Outcome State Fault Refusal := deliver (.sub .l) 1 s

/-- `SUB [HL]`, 0x96 (R253). -/
def execSubMemHl (s : State) : Host.Outcome State Fault Refusal := deliver (.sub .hlInd) 1 s

/-- `SUB A`, 0x97 (R253). -/
def execSubA (s : State) : Host.Outcome State Fault Refusal := deliver (.sub .a) 1 s

/-- `SBC A,B`, 0x98 (R254). -/
def execSbcAB (s : State) : Host.Outcome State Fault Refusal := deliver (.sbc .b) 1 s

/-- `SBC A,C`, 0x99 (R254). -/
def execSbcAC (s : State) : Host.Outcome State Fault Refusal := deliver (.sbc .c) 1 s

/-- `SBC A,D`, 0x9A (R254). -/
def execSbcAD (s : State) : Host.Outcome State Fault Refusal := deliver (.sbc .d) 1 s

/-- `SBC A,E`, 0x9B (R254). -/
def execSbcAE (s : State) : Host.Outcome State Fault Refusal := deliver (.sbc .e) 1 s

/-- `SBC A,H`, 0x9C (R254). -/
def execSbcAH (s : State) : Host.Outcome State Fault Refusal := deliver (.sbc .h) 1 s

/-- `SBC A,L`, 0x9D (R254). -/
def execSbcAL (s : State) : Host.Outcome State Fault Refusal := deliver (.sbc .l) 1 s

/-- `SBC A,[HL]`, 0x9E (R254). -/
def execSbcAMemHl (s : State) : Host.Outcome State Fault Refusal := deliver (.sbc .hlInd) 1 s

/-- `SBC A,A`, 0x9F (R254). -/
def execSbcAA (s : State) : Host.Outcome State Fault Refusal := deliver (.sbc .a) 1 s

/-- `AND B`, 0xA0 (R255). -/
def execAndB (s : State) : Host.Outcome State Fault Refusal := deliver (.and .b) 1 s

/-- `AND C`, 0xA1 (R255). -/
def execAndC (s : State) : Host.Outcome State Fault Refusal := deliver (.and .c) 1 s

/-- `AND D`, 0xA2 (R255). -/
def execAndD (s : State) : Host.Outcome State Fault Refusal := deliver (.and .d) 1 s

/-- `AND E`, 0xA3 (R255). -/
def execAndE (s : State) : Host.Outcome State Fault Refusal := deliver (.and .e) 1 s

/-- `AND H`, 0xA4 (R255). -/
def execAndH (s : State) : Host.Outcome State Fault Refusal := deliver (.and .h) 1 s

/-- `AND L`, 0xA5 (R255). -/
def execAndL (s : State) : Host.Outcome State Fault Refusal := deliver (.and .l) 1 s

/-- `AND [HL]`, 0xA6 (R255). -/
def execAndMemHl (s : State) : Host.Outcome State Fault Refusal := deliver (.and .hlInd) 1 s

/-- `AND A`, 0xA7 (R255). -/
def execAndA (s : State) : Host.Outcome State Fault Refusal := deliver (.and .a) 1 s

/-- `XOR B`, 0xA8 (R256). -/
def execXorB (s : State) : Host.Outcome State Fault Refusal := deliver (.xor .b) 1 s

/-- `XOR C`, 0xA9 (R256). -/
def execXorC (s : State) : Host.Outcome State Fault Refusal := deliver (.xor .c) 1 s

/-- `XOR D`, 0xAA (R256). -/
def execXorD (s : State) : Host.Outcome State Fault Refusal := deliver (.xor .d) 1 s

/-- `XOR E`, 0xAB (R256). -/
def execXorE (s : State) : Host.Outcome State Fault Refusal := deliver (.xor .e) 1 s

/-- `XOR H`, 0xAC (R256). -/
def execXorH (s : State) : Host.Outcome State Fault Refusal := deliver (.xor .h) 1 s

/-- `XOR L`, 0xAD (R256). -/
def execXorL (s : State) : Host.Outcome State Fault Refusal := deliver (.xor .l) 1 s

/-- `XOR [HL]`, 0xAE (R256). -/
def execXorMemHl (s : State) : Host.Outcome State Fault Refusal := deliver (.xor .hlInd) 1 s

/-- `XOR A`, 0xAF (R256). -/
def execXorA (s : State) : Host.Outcome State Fault Refusal := deliver (.xor .a) 1 s

/-- `OR B`, 0xB0 (R257). -/
def execOrB (s : State) : Host.Outcome State Fault Refusal := deliver (.or .b) 1 s

/-- `OR C`, 0xB1 (R257). -/
def execOrC (s : State) : Host.Outcome State Fault Refusal := deliver (.or .c) 1 s

/-- `OR D`, 0xB2 (R257). -/
def execOrD (s : State) : Host.Outcome State Fault Refusal := deliver (.or .d) 1 s

/-- `OR E`, 0xB3 (R257). -/
def execOrE (s : State) : Host.Outcome State Fault Refusal := deliver (.or .e) 1 s

/-- `OR H`, 0xB4 (R257). -/
def execOrH (s : State) : Host.Outcome State Fault Refusal := deliver (.or .h) 1 s

/-- `OR L`, 0xB5 (R257). -/
def execOrL (s : State) : Host.Outcome State Fault Refusal := deliver (.or .l) 1 s

/-- `OR [HL]`, 0xB6 (R257). -/
def execOrMemHl (s : State) : Host.Outcome State Fault Refusal := deliver (.or .hlInd) 1 s

/-- `OR A`, 0xB7 (R257). -/
def execOrA (s : State) : Host.Outcome State Fault Refusal := deliver (.or .a) 1 s

/-- `CP B`, 0xB8 (R258). -/
def execCpB (s : State) : Host.Outcome State Fault Refusal := deliver (.cp .b) 1 s

/-- `CP C`, 0xB9 (R258). -/
def execCpC (s : State) : Host.Outcome State Fault Refusal := deliver (.cp .c) 1 s

/-- `CP D`, 0xBA (R258). -/
def execCpD (s : State) : Host.Outcome State Fault Refusal := deliver (.cp .d) 1 s

/-- `CP E`, 0xBB (R258). -/
def execCpE (s : State) : Host.Outcome State Fault Refusal := deliver (.cp .e) 1 s

/-- `CP H`, 0xBC (R258). -/
def execCpH (s : State) : Host.Outcome State Fault Refusal := deliver (.cp .h) 1 s

/-- `CP L`, 0xBD (R258). -/
def execCpL (s : State) : Host.Outcome State Fault Refusal := deliver (.cp .l) 1 s

/-- `CP [HL]`, 0xBE (R258). -/
def execCpMemHl (s : State) : Host.Outcome State Fault Refusal := deliver (.cp .hlInd) 1 s

/-- `CP A`, 0xBF (R258). -/
def execCpA (s : State) : Host.Outcome State Fault Refusal := deliver (.cp .a) 1 s

/-- `ADD A,d8`, 0xC6 (R259). -/
def execAddAD8 (d8 : Byte) (s : State) : Host.Outcome State Fault Refusal := deliver (.addImm d8) 2 s

/-- `ADC A,d8`, 0xCE (R260). -/
def execAdcAD8 (d8 : Byte) (s : State) : Host.Outcome State Fault Refusal := deliver (.adcImm d8) 2 s

/-- `SUB d8`, 0xD6 (R261). -/
def execSubD8 (d8 : Byte) (s : State) : Host.Outcome State Fault Refusal := deliver (.subImm d8) 2 s

/-- `SBC A,d8`, 0xDE (R262). -/
def execSbcAD8 (d8 : Byte) (s : State) : Host.Outcome State Fault Refusal := deliver (.sbcImm d8) 2 s

/-- `AND d8`, 0xE6 (R263). -/
def execAndD8 (d8 : Byte) (s : State) : Host.Outcome State Fault Refusal := deliver (.andImm d8) 2 s

/-- `ADD SP,e8`, 0xE8 (R272). -/
def execAddSpE8 (e8 : Int) (s : State) : Host.Outcome State Fault Refusal := deliver (.addSpOff e8) 2 s

/-- `XOR d8`, 0xEE (R264). -/
def execXorD8 (d8 : Byte) (s : State) : Host.Outcome State Fault Refusal := deliver (.xorImm d8) 2 s

/-- `OR d8`, 0xF6 (R265). -/
def execOrD8 (d8 : Byte) (s : State) : Host.Outcome State Fault Refusal := deliver (.orImm d8) 2 s

/-- `CP d8`, 0xFE (R266). -/
def execCpD8 (d8 : Byte) (s : State) : Host.Outcome State Fault Refusal := deliver (.cpImm d8) 2 s

end Sys2Proof.Machine
end

