-- ==== Sys2Proof/Machine/Control.lean ====
section
/-! DEFINITION. The meanings of the one-byte control and accumulator forms (`spec/43_control_misc.md`): decoding one yields its class and payload and
consumes its bytes, through `deliver`. The block performs none of them and has no
interrupt enable or flag they could change (R190, R194). -/

namespace Sys2Proof.Machine

open Sys2Proof

/-- `NOP`, 0x00 (R191). -/
def execNop (s : State) : Host.Outcome State Fault Refusal := deliver (.nop) 1 s

/-- `RLCA`, 0x07 (R200). -/
def execRlca (s : State) : Host.Outcome State Fault Refusal := deliver (.rlca) 1 s

/-- `RRCA`, 0x0F (R201). -/
def execRrca (s : State) : Host.Outcome State Fault Refusal := deliver (.rrca) 1 s

/-- `STOP`, 0x10 (R192). -/
def execStop (s : State) : Host.Outcome State Fault Refusal := deliver (.stop) 1 s

/-- `RLA`, 0x17 (R202). -/
def execRla (s : State) : Host.Outcome State Fault Refusal := deliver (.rla) 1 s

/-- `RRA`, 0x1F (R203). -/
def execRra (s : State) : Host.Outcome State Fault Refusal := deliver (.rra) 1 s

/-- `DAA`, 0x27 (R204). -/
def execDaa (s : State) : Host.Outcome State Fault Refusal := deliver (.daa) 1 s

/-- `CPL`, 0x2F (R205). -/
def execCpl (s : State) : Host.Outcome State Fault Refusal := deliver (.cpl) 1 s

/-- `SCF`, 0x37 (R206). -/
def execScf (s : State) : Host.Outcome State Fault Refusal := deliver (.scf) 1 s

/-- `CCF`, 0x3F (R207). -/
def execCcf (s : State) : Host.Outcome State Fault Refusal := deliver (.ccf) 1 s

/-- `HALT`, 0x76 (R193). -/
def execHalt (s : State) : Host.Outcome State Fault Refusal := deliver (.halt) 1 s

/-- `RET`, 0xC9 (R196). -/
def execRet (s : State) : Host.Outcome State Fault Refusal := deliver (.ret) 1 s

/-- `RETI`, 0xD9 (R197). -/
def execReti (s : State) : Host.Outcome State Fault Refusal := deliver (.reti) 1 s

/-- `JP HL`, 0xE9 (R198). -/
def execJpHl (s : State) : Host.Outcome State Fault Refusal := deliver (.jpHl) 1 s

/-- `DI`, 0xF3 (R194). -/
def execDi (s : State) : Host.Outcome State Fault Refusal := deliver (.di) 1 s

/-- `LD SP,HL`, 0xF9 (R199). -/
def execLdSpHl (s : State) : Host.Outcome State Fault Refusal := deliver (.ldSpHl) 1 s

/-- `EI`, 0xFB (R195). -/
def execEi (s : State) : Host.Outcome State Fault Refusal := deliver (.ei) 1 s

end Sys2Proof.Machine
end

