-- ==== Sys2Proof/Machine/Extended.lean ====
section
/-! DEFINITION. The meanings of the escape-prefixed forms (`spec/47_extended.md`): decoding one yields its class and payload and
consumes its bytes, through `deliver`. Each consumes two bytes and has operand
width 0 (R300). -/

namespace Sys2Proof.Machine

open Sys2Proof

/-- `RLC B`, 0xCB 0x00 (R301). -/
def execRlcB (s : State) : Host.Outcome State Fault Refusal := deliver (.rlc .b) 2 s

/-- `RLC C`, 0xCB 0x01 (R301). -/
def execRlcC (s : State) : Host.Outcome State Fault Refusal := deliver (.rlc .c) 2 s

/-- `RLC D`, 0xCB 0x02 (R301). -/
def execRlcD (s : State) : Host.Outcome State Fault Refusal := deliver (.rlc .d) 2 s

/-- `RLC E`, 0xCB 0x03 (R301). -/
def execRlcE (s : State) : Host.Outcome State Fault Refusal := deliver (.rlc .e) 2 s

/-- `RLC H`, 0xCB 0x04 (R301). -/
def execRlcH (s : State) : Host.Outcome State Fault Refusal := deliver (.rlc .h) 2 s

/-- `RLC L`, 0xCB 0x05 (R301). -/
def execRlcL (s : State) : Host.Outcome State Fault Refusal := deliver (.rlc .l) 2 s

/-- `RLC [HL]`, 0xCB 0x06 (R301). -/
def execRlcMemHl (s : State) : Host.Outcome State Fault Refusal := deliver (.rlc .hlInd) 2 s

/-- `RLC A`, 0xCB 0x07 (R301). -/
def execRlcA (s : State) : Host.Outcome State Fault Refusal := deliver (.rlc .a) 2 s

/-- `RRC B`, 0xCB 0x08 (R302). -/
def execRrcB (s : State) : Host.Outcome State Fault Refusal := deliver (.rrc .b) 2 s

/-- `RRC C`, 0xCB 0x09 (R302). -/
def execRrcC (s : State) : Host.Outcome State Fault Refusal := deliver (.rrc .c) 2 s

/-- `RRC D`, 0xCB 0x0A (R302). -/
def execRrcD (s : State) : Host.Outcome State Fault Refusal := deliver (.rrc .d) 2 s

/-- `RRC E`, 0xCB 0x0B (R302). -/
def execRrcE (s : State) : Host.Outcome State Fault Refusal := deliver (.rrc .e) 2 s

/-- `RRC H`, 0xCB 0x0C (R302). -/
def execRrcH (s : State) : Host.Outcome State Fault Refusal := deliver (.rrc .h) 2 s

/-- `RRC L`, 0xCB 0x0D (R302). -/
def execRrcL (s : State) : Host.Outcome State Fault Refusal := deliver (.rrc .l) 2 s

/-- `RRC [HL]`, 0xCB 0x0E (R302). -/
def execRrcMemHl (s : State) : Host.Outcome State Fault Refusal := deliver (.rrc .hlInd) 2 s

/-- `RRC A`, 0xCB 0x0F (R302). -/
def execRrcA (s : State) : Host.Outcome State Fault Refusal := deliver (.rrc .a) 2 s

/-- `RL B`, 0xCB 0x10 (R303). -/
def execRlB (s : State) : Host.Outcome State Fault Refusal := deliver (.rl .b) 2 s

/-- `RL C`, 0xCB 0x11 (R303). -/
def execRlC (s : State) : Host.Outcome State Fault Refusal := deliver (.rl .c) 2 s

/-- `RL D`, 0xCB 0x12 (R303). -/
def execRlD (s : State) : Host.Outcome State Fault Refusal := deliver (.rl .d) 2 s

/-- `RL E`, 0xCB 0x13 (R303). -/
def execRlE (s : State) : Host.Outcome State Fault Refusal := deliver (.rl .e) 2 s

/-- `RL H`, 0xCB 0x14 (R303). -/
def execRlH (s : State) : Host.Outcome State Fault Refusal := deliver (.rl .h) 2 s

/-- `RL L`, 0xCB 0x15 (R303). -/
def execRlL (s : State) : Host.Outcome State Fault Refusal := deliver (.rl .l) 2 s

/-- `RL [HL]`, 0xCB 0x16 (R303). -/
def execRlMemHl (s : State) : Host.Outcome State Fault Refusal := deliver (.rl .hlInd) 2 s

/-- `RL A`, 0xCB 0x17 (R303). -/
def execRlA (s : State) : Host.Outcome State Fault Refusal := deliver (.rl .a) 2 s

/-- `RR B`, 0xCB 0x18 (R304). -/
def execRrB (s : State) : Host.Outcome State Fault Refusal := deliver (.rr .b) 2 s

/-- `RR C`, 0xCB 0x19 (R304). -/
def execRrC (s : State) : Host.Outcome State Fault Refusal := deliver (.rr .c) 2 s

/-- `RR D`, 0xCB 0x1A (R304). -/
def execRrD (s : State) : Host.Outcome State Fault Refusal := deliver (.rr .d) 2 s

/-- `RR E`, 0xCB 0x1B (R304). -/
def execRrE (s : State) : Host.Outcome State Fault Refusal := deliver (.rr .e) 2 s

/-- `RR H`, 0xCB 0x1C (R304). -/
def execRrH (s : State) : Host.Outcome State Fault Refusal := deliver (.rr .h) 2 s

/-- `RR L`, 0xCB 0x1D (R304). -/
def execRrL (s : State) : Host.Outcome State Fault Refusal := deliver (.rr .l) 2 s

/-- `RR [HL]`, 0xCB 0x1E (R304). -/
def execRrMemHl (s : State) : Host.Outcome State Fault Refusal := deliver (.rr .hlInd) 2 s

/-- `RR A`, 0xCB 0x1F (R304). -/
def execRrA (s : State) : Host.Outcome State Fault Refusal := deliver (.rr .a) 2 s

/-- `SLA B`, 0xCB 0x20 (R305). -/
def execSlaB (s : State) : Host.Outcome State Fault Refusal := deliver (.sla .b) 2 s

/-- `SLA C`, 0xCB 0x21 (R305). -/
def execSlaC (s : State) : Host.Outcome State Fault Refusal := deliver (.sla .c) 2 s

/-- `SLA D`, 0xCB 0x22 (R305). -/
def execSlaD (s : State) : Host.Outcome State Fault Refusal := deliver (.sla .d) 2 s

/-- `SLA E`, 0xCB 0x23 (R305). -/
def execSlaE (s : State) : Host.Outcome State Fault Refusal := deliver (.sla .e) 2 s

/-- `SLA H`, 0xCB 0x24 (R305). -/
def execSlaH (s : State) : Host.Outcome State Fault Refusal := deliver (.sla .h) 2 s

/-- `SLA L`, 0xCB 0x25 (R305). -/
def execSlaL (s : State) : Host.Outcome State Fault Refusal := deliver (.sla .l) 2 s

/-- `SLA [HL]`, 0xCB 0x26 (R305). -/
def execSlaMemHl (s : State) : Host.Outcome State Fault Refusal := deliver (.sla .hlInd) 2 s

/-- `SLA A`, 0xCB 0x27 (R305). -/
def execSlaA (s : State) : Host.Outcome State Fault Refusal := deliver (.sla .a) 2 s

/-- `SRA B`, 0xCB 0x28 (R306). -/
def execSraB (s : State) : Host.Outcome State Fault Refusal := deliver (.sra .b) 2 s

/-- `SRA C`, 0xCB 0x29 (R306). -/
def execSraC (s : State) : Host.Outcome State Fault Refusal := deliver (.sra .c) 2 s

/-- `SRA D`, 0xCB 0x2A (R306). -/
def execSraD (s : State) : Host.Outcome State Fault Refusal := deliver (.sra .d) 2 s

/-- `SRA E`, 0xCB 0x2B (R306). -/
def execSraE (s : State) : Host.Outcome State Fault Refusal := deliver (.sra .e) 2 s

/-- `SRA H`, 0xCB 0x2C (R306). -/
def execSraH (s : State) : Host.Outcome State Fault Refusal := deliver (.sra .h) 2 s

/-- `SRA L`, 0xCB 0x2D (R306). -/
def execSraL (s : State) : Host.Outcome State Fault Refusal := deliver (.sra .l) 2 s

/-- `SRA [HL]`, 0xCB 0x2E (R306). -/
def execSraMemHl (s : State) : Host.Outcome State Fault Refusal := deliver (.sra .hlInd) 2 s

/-- `SRA A`, 0xCB 0x2F (R306). -/
def execSraA (s : State) : Host.Outcome State Fault Refusal := deliver (.sra .a) 2 s

/-- `SWAP B`, 0xCB 0x30 (R307). -/
def execSwapB (s : State) : Host.Outcome State Fault Refusal := deliver (.swap .b) 2 s

/-- `SWAP C`, 0xCB 0x31 (R307). -/
def execSwapC (s : State) : Host.Outcome State Fault Refusal := deliver (.swap .c) 2 s

/-- `SWAP D`, 0xCB 0x32 (R307). -/
def execSwapD (s : State) : Host.Outcome State Fault Refusal := deliver (.swap .d) 2 s

/-- `SWAP E`, 0xCB 0x33 (R307). -/
def execSwapE (s : State) : Host.Outcome State Fault Refusal := deliver (.swap .e) 2 s

/-- `SWAP H`, 0xCB 0x34 (R307). -/
def execSwapH (s : State) : Host.Outcome State Fault Refusal := deliver (.swap .h) 2 s

/-- `SWAP L`, 0xCB 0x35 (R307). -/
def execSwapL (s : State) : Host.Outcome State Fault Refusal := deliver (.swap .l) 2 s

/-- `SWAP [HL]`, 0xCB 0x36 (R307). -/
def execSwapMemHl (s : State) : Host.Outcome State Fault Refusal := deliver (.swap .hlInd) 2 s

/-- `SWAP A`, 0xCB 0x37 (R307). -/
def execSwapA (s : State) : Host.Outcome State Fault Refusal := deliver (.swap .a) 2 s

/-- `SRL B`, 0xCB 0x38 (R308). -/
def execSrlB (s : State) : Host.Outcome State Fault Refusal := deliver (.srl .b) 2 s

/-- `SRL C`, 0xCB 0x39 (R308). -/
def execSrlC (s : State) : Host.Outcome State Fault Refusal := deliver (.srl .c) 2 s

/-- `SRL D`, 0xCB 0x3A (R308). -/
def execSrlD (s : State) : Host.Outcome State Fault Refusal := deliver (.srl .d) 2 s

/-- `SRL E`, 0xCB 0x3B (R308). -/
def execSrlE (s : State) : Host.Outcome State Fault Refusal := deliver (.srl .e) 2 s

/-- `SRL H`, 0xCB 0x3C (R308). -/
def execSrlH (s : State) : Host.Outcome State Fault Refusal := deliver (.srl .h) 2 s

/-- `SRL L`, 0xCB 0x3D (R308). -/
def execSrlL (s : State) : Host.Outcome State Fault Refusal := deliver (.srl .l) 2 s

/-- `SRL [HL]`, 0xCB 0x3E (R308). -/
def execSrlMemHl (s : State) : Host.Outcome State Fault Refusal := deliver (.srl .hlInd) 2 s

/-- `SRL A`, 0xCB 0x3F (R308). -/
def execSrlA (s : State) : Host.Outcome State Fault Refusal := deliver (.srl .a) 2 s

/-- `BIT 0,B`, 0xCB 0x40 (R309). -/
def execBit0B (s : State) : Host.Outcome State Fault Refusal := deliver (.bit 0 .b) 2 s

/-- `BIT 0,C`, 0xCB 0x41 (R309). -/
def execBit0C (s : State) : Host.Outcome State Fault Refusal := deliver (.bit 0 .c) 2 s

/-- `BIT 0,D`, 0xCB 0x42 (R309). -/
def execBit0D (s : State) : Host.Outcome State Fault Refusal := deliver (.bit 0 .d) 2 s

/-- `BIT 0,E`, 0xCB 0x43 (R309). -/
def execBit0E (s : State) : Host.Outcome State Fault Refusal := deliver (.bit 0 .e) 2 s

/-- `BIT 0,H`, 0xCB 0x44 (R309). -/
def execBit0H (s : State) : Host.Outcome State Fault Refusal := deliver (.bit 0 .h) 2 s

/-- `BIT 0,L`, 0xCB 0x45 (R309). -/
def execBit0L (s : State) : Host.Outcome State Fault Refusal := deliver (.bit 0 .l) 2 s

/-- `BIT 0,[HL]`, 0xCB 0x46 (R309). -/
def execBit0MemHl (s : State) : Host.Outcome State Fault Refusal := deliver (.bit 0 .hlInd) 2 s

/-- `BIT 0,A`, 0xCB 0x47 (R309). -/
def execBit0A (s : State) : Host.Outcome State Fault Refusal := deliver (.bit 0 .a) 2 s

/-- `BIT 1,B`, 0xCB 0x48 (R309). -/
def execBit1B (s : State) : Host.Outcome State Fault Refusal := deliver (.bit 1 .b) 2 s

/-- `BIT 1,C`, 0xCB 0x49 (R309). -/
def execBit1C (s : State) : Host.Outcome State Fault Refusal := deliver (.bit 1 .c) 2 s

/-- `BIT 1,D`, 0xCB 0x4A (R309). -/
def execBit1D (s : State) : Host.Outcome State Fault Refusal := deliver (.bit 1 .d) 2 s

/-- `BIT 1,E`, 0xCB 0x4B (R309). -/
def execBit1E (s : State) : Host.Outcome State Fault Refusal := deliver (.bit 1 .e) 2 s

/-- `BIT 1,H`, 0xCB 0x4C (R309). -/
def execBit1H (s : State) : Host.Outcome State Fault Refusal := deliver (.bit 1 .h) 2 s

/-- `BIT 1,L`, 0xCB 0x4D (R309). -/
def execBit1L (s : State) : Host.Outcome State Fault Refusal := deliver (.bit 1 .l) 2 s

/-- `BIT 1,[HL]`, 0xCB 0x4E (R309). -/
def execBit1MemHl (s : State) : Host.Outcome State Fault Refusal := deliver (.bit 1 .hlInd) 2 s

/-- `BIT 1,A`, 0xCB 0x4F (R309). -/
def execBit1A (s : State) : Host.Outcome State Fault Refusal := deliver (.bit 1 .a) 2 s

/-- `BIT 2,B`, 0xCB 0x50 (R309). -/
def execBit2B (s : State) : Host.Outcome State Fault Refusal := deliver (.bit 2 .b) 2 s

/-- `BIT 2,C`, 0xCB 0x51 (R309). -/
def execBit2C (s : State) : Host.Outcome State Fault Refusal := deliver (.bit 2 .c) 2 s

/-- `BIT 2,D`, 0xCB 0x52 (R309). -/
def execBit2D (s : State) : Host.Outcome State Fault Refusal := deliver (.bit 2 .d) 2 s

/-- `BIT 2,E`, 0xCB 0x53 (R309). -/
def execBit2E (s : State) : Host.Outcome State Fault Refusal := deliver (.bit 2 .e) 2 s

/-- `BIT 2,H`, 0xCB 0x54 (R309). -/
def execBit2H (s : State) : Host.Outcome State Fault Refusal := deliver (.bit 2 .h) 2 s

/-- `BIT 2,L`, 0xCB 0x55 (R309). -/
def execBit2L (s : State) : Host.Outcome State Fault Refusal := deliver (.bit 2 .l) 2 s

/-- `BIT 2,[HL]`, 0xCB 0x56 (R309). -/
def execBit2MemHl (s : State) : Host.Outcome State Fault Refusal := deliver (.bit 2 .hlInd) 2 s

/-- `BIT 2,A`, 0xCB 0x57 (R309). -/
def execBit2A (s : State) : Host.Outcome State Fault Refusal := deliver (.bit 2 .a) 2 s

/-- `BIT 3,B`, 0xCB 0x58 (R309). -/
def execBit3B (s : State) : Host.Outcome State Fault Refusal := deliver (.bit 3 .b) 2 s

/-- `BIT 3,C`, 0xCB 0x59 (R309). -/
def execBit3C (s : State) : Host.Outcome State Fault Refusal := deliver (.bit 3 .c) 2 s

/-- `BIT 3,D`, 0xCB 0x5A (R309). -/
def execBit3D (s : State) : Host.Outcome State Fault Refusal := deliver (.bit 3 .d) 2 s

/-- `BIT 3,E`, 0xCB 0x5B (R309). -/
def execBit3E (s : State) : Host.Outcome State Fault Refusal := deliver (.bit 3 .e) 2 s

/-- `BIT 3,H`, 0xCB 0x5C (R309). -/
def execBit3H (s : State) : Host.Outcome State Fault Refusal := deliver (.bit 3 .h) 2 s

/-- `BIT 3,L`, 0xCB 0x5D (R309). -/
def execBit3L (s : State) : Host.Outcome State Fault Refusal := deliver (.bit 3 .l) 2 s

/-- `BIT 3,[HL]`, 0xCB 0x5E (R309). -/
def execBit3MemHl (s : State) : Host.Outcome State Fault Refusal := deliver (.bit 3 .hlInd) 2 s

/-- `BIT 3,A`, 0xCB 0x5F (R309). -/
def execBit3A (s : State) : Host.Outcome State Fault Refusal := deliver (.bit 3 .a) 2 s

/-- `BIT 4,B`, 0xCB 0x60 (R309). -/
def execBit4B (s : State) : Host.Outcome State Fault Refusal := deliver (.bit 4 .b) 2 s

/-- `BIT 4,C`, 0xCB 0x61 (R309). -/
def execBit4C (s : State) : Host.Outcome State Fault Refusal := deliver (.bit 4 .c) 2 s

/-- `BIT 4,D`, 0xCB 0x62 (R309). -/
def execBit4D (s : State) : Host.Outcome State Fault Refusal := deliver (.bit 4 .d) 2 s

/-- `BIT 4,E`, 0xCB 0x63 (R309). -/
def execBit4E (s : State) : Host.Outcome State Fault Refusal := deliver (.bit 4 .e) 2 s

/-- `BIT 4,H`, 0xCB 0x64 (R309). -/
def execBit4H (s : State) : Host.Outcome State Fault Refusal := deliver (.bit 4 .h) 2 s

/-- `BIT 4,L`, 0xCB 0x65 (R309). -/
def execBit4L (s : State) : Host.Outcome State Fault Refusal := deliver (.bit 4 .l) 2 s

/-- `BIT 4,[HL]`, 0xCB 0x66 (R309). -/
def execBit4MemHl (s : State) : Host.Outcome State Fault Refusal := deliver (.bit 4 .hlInd) 2 s

/-- `BIT 4,A`, 0xCB 0x67 (R309). -/
def execBit4A (s : State) : Host.Outcome State Fault Refusal := deliver (.bit 4 .a) 2 s

/-- `BIT 5,B`, 0xCB 0x68 (R309). -/
def execBit5B (s : State) : Host.Outcome State Fault Refusal := deliver (.bit 5 .b) 2 s

/-- `BIT 5,C`, 0xCB 0x69 (R309). -/
def execBit5C (s : State) : Host.Outcome State Fault Refusal := deliver (.bit 5 .c) 2 s

/-- `BIT 5,D`, 0xCB 0x6A (R309). -/
def execBit5D (s : State) : Host.Outcome State Fault Refusal := deliver (.bit 5 .d) 2 s

/-- `BIT 5,E`, 0xCB 0x6B (R309). -/
def execBit5E (s : State) : Host.Outcome State Fault Refusal := deliver (.bit 5 .e) 2 s

/-- `BIT 5,H`, 0xCB 0x6C (R309). -/
def execBit5H (s : State) : Host.Outcome State Fault Refusal := deliver (.bit 5 .h) 2 s

/-- `BIT 5,L`, 0xCB 0x6D (R309). -/
def execBit5L (s : State) : Host.Outcome State Fault Refusal := deliver (.bit 5 .l) 2 s

/-- `BIT 5,[HL]`, 0xCB 0x6E (R309). -/
def execBit5MemHl (s : State) : Host.Outcome State Fault Refusal := deliver (.bit 5 .hlInd) 2 s

/-- `BIT 5,A`, 0xCB 0x6F (R309). -/
def execBit5A (s : State) : Host.Outcome State Fault Refusal := deliver (.bit 5 .a) 2 s

/-- `BIT 6,B`, 0xCB 0x70 (R309). -/
def execBit6B (s : State) : Host.Outcome State Fault Refusal := deliver (.bit 6 .b) 2 s

/-- `BIT 6,C`, 0xCB 0x71 (R309). -/
def execBit6C (s : State) : Host.Outcome State Fault Refusal := deliver (.bit 6 .c) 2 s

/-- `BIT 6,D`, 0xCB 0x72 (R309). -/
def execBit6D (s : State) : Host.Outcome State Fault Refusal := deliver (.bit 6 .d) 2 s

/-- `BIT 6,E`, 0xCB 0x73 (R309). -/
def execBit6E (s : State) : Host.Outcome State Fault Refusal := deliver (.bit 6 .e) 2 s

/-- `BIT 6,H`, 0xCB 0x74 (R309). -/
def execBit6H (s : State) : Host.Outcome State Fault Refusal := deliver (.bit 6 .h) 2 s

/-- `BIT 6,L`, 0xCB 0x75 (R309). -/
def execBit6L (s : State) : Host.Outcome State Fault Refusal := deliver (.bit 6 .l) 2 s

/-- `BIT 6,[HL]`, 0xCB 0x76 (R309). -/
def execBit6MemHl (s : State) : Host.Outcome State Fault Refusal := deliver (.bit 6 .hlInd) 2 s

/-- `BIT 6,A`, 0xCB 0x77 (R309). -/
def execBit6A (s : State) : Host.Outcome State Fault Refusal := deliver (.bit 6 .a) 2 s

/-- `BIT 7,B`, 0xCB 0x78 (R309). -/
def execBit7B (s : State) : Host.Outcome State Fault Refusal := deliver (.bit 7 .b) 2 s

/-- `BIT 7,C`, 0xCB 0x79 (R309). -/
def execBit7C (s : State) : Host.Outcome State Fault Refusal := deliver (.bit 7 .c) 2 s

/-- `BIT 7,D`, 0xCB 0x7A (R309). -/
def execBit7D (s : State) : Host.Outcome State Fault Refusal := deliver (.bit 7 .d) 2 s

/-- `BIT 7,E`, 0xCB 0x7B (R309). -/
def execBit7E (s : State) : Host.Outcome State Fault Refusal := deliver (.bit 7 .e) 2 s

/-- `BIT 7,H`, 0xCB 0x7C (R309). -/
def execBit7H (s : State) : Host.Outcome State Fault Refusal := deliver (.bit 7 .h) 2 s

/-- `BIT 7,L`, 0xCB 0x7D (R309). -/
def execBit7L (s : State) : Host.Outcome State Fault Refusal := deliver (.bit 7 .l) 2 s

/-- `BIT 7,[HL]`, 0xCB 0x7E (R309). -/
def execBit7MemHl (s : State) : Host.Outcome State Fault Refusal := deliver (.bit 7 .hlInd) 2 s

/-- `BIT 7,A`, 0xCB 0x7F (R309). -/
def execBit7A (s : State) : Host.Outcome State Fault Refusal := deliver (.bit 7 .a) 2 s

/-- `RES 0,B`, 0xCB 0x80 (R310). -/
def execRes0B (s : State) : Host.Outcome State Fault Refusal := deliver (.res 0 .b) 2 s

/-- `RES 0,C`, 0xCB 0x81 (R310). -/
def execRes0C (s : State) : Host.Outcome State Fault Refusal := deliver (.res 0 .c) 2 s

/-- `RES 0,D`, 0xCB 0x82 (R310). -/
def execRes0D (s : State) : Host.Outcome State Fault Refusal := deliver (.res 0 .d) 2 s

/-- `RES 0,E`, 0xCB 0x83 (R310). -/
def execRes0E (s : State) : Host.Outcome State Fault Refusal := deliver (.res 0 .e) 2 s

/-- `RES 0,H`, 0xCB 0x84 (R310). -/
def execRes0H (s : State) : Host.Outcome State Fault Refusal := deliver (.res 0 .h) 2 s

/-- `RES 0,L`, 0xCB 0x85 (R310). -/
def execRes0L (s : State) : Host.Outcome State Fault Refusal := deliver (.res 0 .l) 2 s

/-- `RES 0,[HL]`, 0xCB 0x86 (R310). -/
def execRes0MemHl (s : State) : Host.Outcome State Fault Refusal := deliver (.res 0 .hlInd) 2 s

/-- `RES 0,A`, 0xCB 0x87 (R310). -/
def execRes0A (s : State) : Host.Outcome State Fault Refusal := deliver (.res 0 .a) 2 s

/-- `RES 1,B`, 0xCB 0x88 (R310). -/
def execRes1B (s : State) : Host.Outcome State Fault Refusal := deliver (.res 1 .b) 2 s

/-- `RES 1,C`, 0xCB 0x89 (R310). -/
def execRes1C (s : State) : Host.Outcome State Fault Refusal := deliver (.res 1 .c) 2 s

/-- `RES 1,D`, 0xCB 0x8A (R310). -/
def execRes1D (s : State) : Host.Outcome State Fault Refusal := deliver (.res 1 .d) 2 s

/-- `RES 1,E`, 0xCB 0x8B (R310). -/
def execRes1E (s : State) : Host.Outcome State Fault Refusal := deliver (.res 1 .e) 2 s

/-- `RES 1,H`, 0xCB 0x8C (R310). -/
def execRes1H (s : State) : Host.Outcome State Fault Refusal := deliver (.res 1 .h) 2 s

/-- `RES 1,L`, 0xCB 0x8D (R310). -/
def execRes1L (s : State) : Host.Outcome State Fault Refusal := deliver (.res 1 .l) 2 s

/-- `RES 1,[HL]`, 0xCB 0x8E (R310). -/
def execRes1MemHl (s : State) : Host.Outcome State Fault Refusal := deliver (.res 1 .hlInd) 2 s

/-- `RES 1,A`, 0xCB 0x8F (R310). -/
def execRes1A (s : State) : Host.Outcome State Fault Refusal := deliver (.res 1 .a) 2 s

/-- `RES 2,B`, 0xCB 0x90 (R310). -/
def execRes2B (s : State) : Host.Outcome State Fault Refusal := deliver (.res 2 .b) 2 s

/-- `RES 2,C`, 0xCB 0x91 (R310). -/
def execRes2C (s : State) : Host.Outcome State Fault Refusal := deliver (.res 2 .c) 2 s

/-- `RES 2,D`, 0xCB 0x92 (R310). -/
def execRes2D (s : State) : Host.Outcome State Fault Refusal := deliver (.res 2 .d) 2 s

/-- `RES 2,E`, 0xCB 0x93 (R310). -/
def execRes2E (s : State) : Host.Outcome State Fault Refusal := deliver (.res 2 .e) 2 s

/-- `RES 2,H`, 0xCB 0x94 (R310). -/
def execRes2H (s : State) : Host.Outcome State Fault Refusal := deliver (.res 2 .h) 2 s

/-- `RES 2,L`, 0xCB 0x95 (R310). -/
def execRes2L (s : State) : Host.Outcome State Fault Refusal := deliver (.res 2 .l) 2 s

/-- `RES 2,[HL]`, 0xCB 0x96 (R310). -/
def execRes2MemHl (s : State) : Host.Outcome State Fault Refusal := deliver (.res 2 .hlInd) 2 s

/-- `RES 2,A`, 0xCB 0x97 (R310). -/
def execRes2A (s : State) : Host.Outcome State Fault Refusal := deliver (.res 2 .a) 2 s

/-- `RES 3,B`, 0xCB 0x98 (R310). -/
def execRes3B (s : State) : Host.Outcome State Fault Refusal := deliver (.res 3 .b) 2 s

/-- `RES 3,C`, 0xCB 0x99 (R310). -/
def execRes3C (s : State) : Host.Outcome State Fault Refusal := deliver (.res 3 .c) 2 s

/-- `RES 3,D`, 0xCB 0x9A (R310). -/
def execRes3D (s : State) : Host.Outcome State Fault Refusal := deliver (.res 3 .d) 2 s

/-- `RES 3,E`, 0xCB 0x9B (R310). -/
def execRes3E (s : State) : Host.Outcome State Fault Refusal := deliver (.res 3 .e) 2 s

/-- `RES 3,H`, 0xCB 0x9C (R310). -/
def execRes3H (s : State) : Host.Outcome State Fault Refusal := deliver (.res 3 .h) 2 s

/-- `RES 3,L`, 0xCB 0x9D (R310). -/
def execRes3L (s : State) : Host.Outcome State Fault Refusal := deliver (.res 3 .l) 2 s

/-- `RES 3,[HL]`, 0xCB 0x9E (R310). -/
def execRes3MemHl (s : State) : Host.Outcome State Fault Refusal := deliver (.res 3 .hlInd) 2 s

/-- `RES 3,A`, 0xCB 0x9F (R310). -/
def execRes3A (s : State) : Host.Outcome State Fault Refusal := deliver (.res 3 .a) 2 s

/-- `RES 4,B`, 0xCB 0xA0 (R310). -/
def execRes4B (s : State) : Host.Outcome State Fault Refusal := deliver (.res 4 .b) 2 s

/-- `RES 4,C`, 0xCB 0xA1 (R310). -/
def execRes4C (s : State) : Host.Outcome State Fault Refusal := deliver (.res 4 .c) 2 s

/-- `RES 4,D`, 0xCB 0xA2 (R310). -/
def execRes4D (s : State) : Host.Outcome State Fault Refusal := deliver (.res 4 .d) 2 s

/-- `RES 4,E`, 0xCB 0xA3 (R310). -/
def execRes4E (s : State) : Host.Outcome State Fault Refusal := deliver (.res 4 .e) 2 s

/-- `RES 4,H`, 0xCB 0xA4 (R310). -/
def execRes4H (s : State) : Host.Outcome State Fault Refusal := deliver (.res 4 .h) 2 s

/-- `RES 4,L`, 0xCB 0xA5 (R310). -/
def execRes4L (s : State) : Host.Outcome State Fault Refusal := deliver (.res 4 .l) 2 s

/-- `RES 4,[HL]`, 0xCB 0xA6 (R310). -/
def execRes4MemHl (s : State) : Host.Outcome State Fault Refusal := deliver (.res 4 .hlInd) 2 s

/-- `RES 4,A`, 0xCB 0xA7 (R310). -/
def execRes4A (s : State) : Host.Outcome State Fault Refusal := deliver (.res 4 .a) 2 s

/-- `RES 5,B`, 0xCB 0xA8 (R310). -/
def execRes5B (s : State) : Host.Outcome State Fault Refusal := deliver (.res 5 .b) 2 s

/-- `RES 5,C`, 0xCB 0xA9 (R310). -/
def execRes5C (s : State) : Host.Outcome State Fault Refusal := deliver (.res 5 .c) 2 s

/-- `RES 5,D`, 0xCB 0xAA (R310). -/
def execRes5D (s : State) : Host.Outcome State Fault Refusal := deliver (.res 5 .d) 2 s

/-- `RES 5,E`, 0xCB 0xAB (R310). -/
def execRes5E (s : State) : Host.Outcome State Fault Refusal := deliver (.res 5 .e) 2 s

/-- `RES 5,H`, 0xCB 0xAC (R310). -/
def execRes5H (s : State) : Host.Outcome State Fault Refusal := deliver (.res 5 .h) 2 s

/-- `RES 5,L`, 0xCB 0xAD (R310). -/
def execRes5L (s : State) : Host.Outcome State Fault Refusal := deliver (.res 5 .l) 2 s

/-- `RES 5,[HL]`, 0xCB 0xAE (R310). -/
def execRes5MemHl (s : State) : Host.Outcome State Fault Refusal := deliver (.res 5 .hlInd) 2 s

/-- `RES 5,A`, 0xCB 0xAF (R310). -/
def execRes5A (s : State) : Host.Outcome State Fault Refusal := deliver (.res 5 .a) 2 s

/-- `RES 6,B`, 0xCB 0xB0 (R310). -/
def execRes6B (s : State) : Host.Outcome State Fault Refusal := deliver (.res 6 .b) 2 s

/-- `RES 6,C`, 0xCB 0xB1 (R310). -/
def execRes6C (s : State) : Host.Outcome State Fault Refusal := deliver (.res 6 .c) 2 s

/-- `RES 6,D`, 0xCB 0xB2 (R310). -/
def execRes6D (s : State) : Host.Outcome State Fault Refusal := deliver (.res 6 .d) 2 s

/-- `RES 6,E`, 0xCB 0xB3 (R310). -/
def execRes6E (s : State) : Host.Outcome State Fault Refusal := deliver (.res 6 .e) 2 s

/-- `RES 6,H`, 0xCB 0xB4 (R310). -/
def execRes6H (s : State) : Host.Outcome State Fault Refusal := deliver (.res 6 .h) 2 s

/-- `RES 6,L`, 0xCB 0xB5 (R310). -/
def execRes6L (s : State) : Host.Outcome State Fault Refusal := deliver (.res 6 .l) 2 s

/-- `RES 6,[HL]`, 0xCB 0xB6 (R310). -/
def execRes6MemHl (s : State) : Host.Outcome State Fault Refusal := deliver (.res 6 .hlInd) 2 s

/-- `RES 6,A`, 0xCB 0xB7 (R310). -/
def execRes6A (s : State) : Host.Outcome State Fault Refusal := deliver (.res 6 .a) 2 s

/-- `RES 7,B`, 0xCB 0xB8 (R310). -/
def execRes7B (s : State) : Host.Outcome State Fault Refusal := deliver (.res 7 .b) 2 s

/-- `RES 7,C`, 0xCB 0xB9 (R310). -/
def execRes7C (s : State) : Host.Outcome State Fault Refusal := deliver (.res 7 .c) 2 s

/-- `RES 7,D`, 0xCB 0xBA (R310). -/
def execRes7D (s : State) : Host.Outcome State Fault Refusal := deliver (.res 7 .d) 2 s

/-- `RES 7,E`, 0xCB 0xBB (R310). -/
def execRes7E (s : State) : Host.Outcome State Fault Refusal := deliver (.res 7 .e) 2 s

/-- `RES 7,H`, 0xCB 0xBC (R310). -/
def execRes7H (s : State) : Host.Outcome State Fault Refusal := deliver (.res 7 .h) 2 s

/-- `RES 7,L`, 0xCB 0xBD (R310). -/
def execRes7L (s : State) : Host.Outcome State Fault Refusal := deliver (.res 7 .l) 2 s

/-- `RES 7,[HL]`, 0xCB 0xBE (R310). -/
def execRes7MemHl (s : State) : Host.Outcome State Fault Refusal := deliver (.res 7 .hlInd) 2 s

/-- `RES 7,A`, 0xCB 0xBF (R310). -/
def execRes7A (s : State) : Host.Outcome State Fault Refusal := deliver (.res 7 .a) 2 s

/-- `SET 0,B`, 0xCB 0xC0 (R311). -/
def execSet0B (s : State) : Host.Outcome State Fault Refusal := deliver (.set 0 .b) 2 s

/-- `SET 0,C`, 0xCB 0xC1 (R311). -/
def execSet0C (s : State) : Host.Outcome State Fault Refusal := deliver (.set 0 .c) 2 s

/-- `SET 0,D`, 0xCB 0xC2 (R311). -/
def execSet0D (s : State) : Host.Outcome State Fault Refusal := deliver (.set 0 .d) 2 s

/-- `SET 0,E`, 0xCB 0xC3 (R311). -/
def execSet0E (s : State) : Host.Outcome State Fault Refusal := deliver (.set 0 .e) 2 s

/-- `SET 0,H`, 0xCB 0xC4 (R311). -/
def execSet0H (s : State) : Host.Outcome State Fault Refusal := deliver (.set 0 .h) 2 s

/-- `SET 0,L`, 0xCB 0xC5 (R311). -/
def execSet0L (s : State) : Host.Outcome State Fault Refusal := deliver (.set 0 .l) 2 s

/-- `SET 0,[HL]`, 0xCB 0xC6 (R311). -/
def execSet0MemHl (s : State) : Host.Outcome State Fault Refusal := deliver (.set 0 .hlInd) 2 s

/-- `SET 0,A`, 0xCB 0xC7 (R311). -/
def execSet0A (s : State) : Host.Outcome State Fault Refusal := deliver (.set 0 .a) 2 s

/-- `SET 1,B`, 0xCB 0xC8 (R311). -/
def execSet1B (s : State) : Host.Outcome State Fault Refusal := deliver (.set 1 .b) 2 s

/-- `SET 1,C`, 0xCB 0xC9 (R311). -/
def execSet1C (s : State) : Host.Outcome State Fault Refusal := deliver (.set 1 .c) 2 s

/-- `SET 1,D`, 0xCB 0xCA (R311). -/
def execSet1D (s : State) : Host.Outcome State Fault Refusal := deliver (.set 1 .d) 2 s

/-- `SET 1,E`, 0xCB 0xCB (R311). -/
def execSet1E (s : State) : Host.Outcome State Fault Refusal := deliver (.set 1 .e) 2 s

/-- `SET 1,H`, 0xCB 0xCC (R311). -/
def execSet1H (s : State) : Host.Outcome State Fault Refusal := deliver (.set 1 .h) 2 s

/-- `SET 1,L`, 0xCB 0xCD (R311). -/
def execSet1L (s : State) : Host.Outcome State Fault Refusal := deliver (.set 1 .l) 2 s

/-- `SET 1,[HL]`, 0xCB 0xCE (R311). -/
def execSet1MemHl (s : State) : Host.Outcome State Fault Refusal := deliver (.set 1 .hlInd) 2 s

/-- `SET 1,A`, 0xCB 0xCF (R311). -/
def execSet1A (s : State) : Host.Outcome State Fault Refusal := deliver (.set 1 .a) 2 s

/-- `SET 2,B`, 0xCB 0xD0 (R311). -/
def execSet2B (s : State) : Host.Outcome State Fault Refusal := deliver (.set 2 .b) 2 s

/-- `SET 2,C`, 0xCB 0xD1 (R311). -/
def execSet2C (s : State) : Host.Outcome State Fault Refusal := deliver (.set 2 .c) 2 s

/-- `SET 2,D`, 0xCB 0xD2 (R311). -/
def execSet2D (s : State) : Host.Outcome State Fault Refusal := deliver (.set 2 .d) 2 s

/-- `SET 2,E`, 0xCB 0xD3 (R311). -/
def execSet2E (s : State) : Host.Outcome State Fault Refusal := deliver (.set 2 .e) 2 s

/-- `SET 2,H`, 0xCB 0xD4 (R311). -/
def execSet2H (s : State) : Host.Outcome State Fault Refusal := deliver (.set 2 .h) 2 s

/-- `SET 2,L`, 0xCB 0xD5 (R311). -/
def execSet2L (s : State) : Host.Outcome State Fault Refusal := deliver (.set 2 .l) 2 s

/-- `SET 2,[HL]`, 0xCB 0xD6 (R311). -/
def execSet2MemHl (s : State) : Host.Outcome State Fault Refusal := deliver (.set 2 .hlInd) 2 s

/-- `SET 2,A`, 0xCB 0xD7 (R311). -/
def execSet2A (s : State) : Host.Outcome State Fault Refusal := deliver (.set 2 .a) 2 s

/-- `SET 3,B`, 0xCB 0xD8 (R311). -/
def execSet3B (s : State) : Host.Outcome State Fault Refusal := deliver (.set 3 .b) 2 s

/-- `SET 3,C`, 0xCB 0xD9 (R311). -/
def execSet3C (s : State) : Host.Outcome State Fault Refusal := deliver (.set 3 .c) 2 s

/-- `SET 3,D`, 0xCB 0xDA (R311). -/
def execSet3D (s : State) : Host.Outcome State Fault Refusal := deliver (.set 3 .d) 2 s

/-- `SET 3,E`, 0xCB 0xDB (R311). -/
def execSet3E (s : State) : Host.Outcome State Fault Refusal := deliver (.set 3 .e) 2 s

/-- `SET 3,H`, 0xCB 0xDC (R311). -/
def execSet3H (s : State) : Host.Outcome State Fault Refusal := deliver (.set 3 .h) 2 s

/-- `SET 3,L`, 0xCB 0xDD (R311). -/
def execSet3L (s : State) : Host.Outcome State Fault Refusal := deliver (.set 3 .l) 2 s

/-- `SET 3,[HL]`, 0xCB 0xDE (R311). -/
def execSet3MemHl (s : State) : Host.Outcome State Fault Refusal := deliver (.set 3 .hlInd) 2 s

/-- `SET 3,A`, 0xCB 0xDF (R311). -/
def execSet3A (s : State) : Host.Outcome State Fault Refusal := deliver (.set 3 .a) 2 s

/-- `SET 4,B`, 0xCB 0xE0 (R311). -/
def execSet4B (s : State) : Host.Outcome State Fault Refusal := deliver (.set 4 .b) 2 s

/-- `SET 4,C`, 0xCB 0xE1 (R311). -/
def execSet4C (s : State) : Host.Outcome State Fault Refusal := deliver (.set 4 .c) 2 s

/-- `SET 4,D`, 0xCB 0xE2 (R311). -/
def execSet4D (s : State) : Host.Outcome State Fault Refusal := deliver (.set 4 .d) 2 s

/-- `SET 4,E`, 0xCB 0xE3 (R311). -/
def execSet4E (s : State) : Host.Outcome State Fault Refusal := deliver (.set 4 .e) 2 s

/-- `SET 4,H`, 0xCB 0xE4 (R311). -/
def execSet4H (s : State) : Host.Outcome State Fault Refusal := deliver (.set 4 .h) 2 s

/-- `SET 4,L`, 0xCB 0xE5 (R311). -/
def execSet4L (s : State) : Host.Outcome State Fault Refusal := deliver (.set 4 .l) 2 s

/-- `SET 4,[HL]`, 0xCB 0xE6 (R311). -/
def execSet4MemHl (s : State) : Host.Outcome State Fault Refusal := deliver (.set 4 .hlInd) 2 s

/-- `SET 4,A`, 0xCB 0xE7 (R311). -/
def execSet4A (s : State) : Host.Outcome State Fault Refusal := deliver (.set 4 .a) 2 s

/-- `SET 5,B`, 0xCB 0xE8 (R311). -/
def execSet5B (s : State) : Host.Outcome State Fault Refusal := deliver (.set 5 .b) 2 s

/-- `SET 5,C`, 0xCB 0xE9 (R311). -/
def execSet5C (s : State) : Host.Outcome State Fault Refusal := deliver (.set 5 .c) 2 s

/-- `SET 5,D`, 0xCB 0xEA (R311). -/
def execSet5D (s : State) : Host.Outcome State Fault Refusal := deliver (.set 5 .d) 2 s

/-- `SET 5,E`, 0xCB 0xEB (R311). -/
def execSet5E (s : State) : Host.Outcome State Fault Refusal := deliver (.set 5 .e) 2 s

/-- `SET 5,H`, 0xCB 0xEC (R311). -/
def execSet5H (s : State) : Host.Outcome State Fault Refusal := deliver (.set 5 .h) 2 s

/-- `SET 5,L`, 0xCB 0xED (R311). -/
def execSet5L (s : State) : Host.Outcome State Fault Refusal := deliver (.set 5 .l) 2 s

/-- `SET 5,[HL]`, 0xCB 0xEE (R311). -/
def execSet5MemHl (s : State) : Host.Outcome State Fault Refusal := deliver (.set 5 .hlInd) 2 s

/-- `SET 5,A`, 0xCB 0xEF (R311). -/
def execSet5A (s : State) : Host.Outcome State Fault Refusal := deliver (.set 5 .a) 2 s

/-- `SET 6,B`, 0xCB 0xF0 (R311). -/
def execSet6B (s : State) : Host.Outcome State Fault Refusal := deliver (.set 6 .b) 2 s

/-- `SET 6,C`, 0xCB 0xF1 (R311). -/
def execSet6C (s : State) : Host.Outcome State Fault Refusal := deliver (.set 6 .c) 2 s

/-- `SET 6,D`, 0xCB 0xF2 (R311). -/
def execSet6D (s : State) : Host.Outcome State Fault Refusal := deliver (.set 6 .d) 2 s

/-- `SET 6,E`, 0xCB 0xF3 (R311). -/
def execSet6E (s : State) : Host.Outcome State Fault Refusal := deliver (.set 6 .e) 2 s

/-- `SET 6,H`, 0xCB 0xF4 (R311). -/
def execSet6H (s : State) : Host.Outcome State Fault Refusal := deliver (.set 6 .h) 2 s

/-- `SET 6,L`, 0xCB 0xF5 (R311). -/
def execSet6L (s : State) : Host.Outcome State Fault Refusal := deliver (.set 6 .l) 2 s

/-- `SET 6,[HL]`, 0xCB 0xF6 (R311). -/
def execSet6MemHl (s : State) : Host.Outcome State Fault Refusal := deliver (.set 6 .hlInd) 2 s

/-- `SET 6,A`, 0xCB 0xF7 (R311). -/
def execSet6A (s : State) : Host.Outcome State Fault Refusal := deliver (.set 6 .a) 2 s

/-- `SET 7,B`, 0xCB 0xF8 (R311). -/
def execSet7B (s : State) : Host.Outcome State Fault Refusal := deliver (.set 7 .b) 2 s

/-- `SET 7,C`, 0xCB 0xF9 (R311). -/
def execSet7C (s : State) : Host.Outcome State Fault Refusal := deliver (.set 7 .c) 2 s

/-- `SET 7,D`, 0xCB 0xFA (R311). -/
def execSet7D (s : State) : Host.Outcome State Fault Refusal := deliver (.set 7 .d) 2 s

/-- `SET 7,E`, 0xCB 0xFB (R311). -/
def execSet7E (s : State) : Host.Outcome State Fault Refusal := deliver (.set 7 .e) 2 s

/-- `SET 7,H`, 0xCB 0xFC (R311). -/
def execSet7H (s : State) : Host.Outcome State Fault Refusal := deliver (.set 7 .h) 2 s

/-- `SET 7,L`, 0xCB 0xFD (R311). -/
def execSet7L (s : State) : Host.Outcome State Fault Refusal := deliver (.set 7 .l) 2 s

/-- `SET 7,[HL]`, 0xCB 0xFE (R311). -/
def execSet7MemHl (s : State) : Host.Outcome State Fault Refusal := deliver (.set 7 .hlInd) 2 s

/-- `SET 7,A`, 0xCB 0xFF (R311). -/
def execSet7A (s : State) : Host.Outcome State Fault Refusal := deliver (.set 7 .a) 2 s

end Sys2Proof.Machine
end

