-- ==== Sys2Proof/Machine/Failures.lean ====
section
/-! DEFINITION. The meanings of the two rows of the opcode table that are no `Instruction`: the escape byte by itself and
the eleven undefined bytes (`spec/42_decoder_top.md` R173, R175). -/

namespace Sys2Proof.Machine

open Sys2Proof

/-- `PREFIX CB`, 0xCB (R173): consume exactly one more byte and use it as an index into the extended table; where the
buffer ends after the escape byte, `OutOfData`. The decoder selects this row only in that second case: with a byte
after it, the escape selects that byte's extended row. -/
def execPrefixCb (s : State) : Host.Outcome State Fault Refusal :=
  match s.byteAt (s.fetchOffset + 1) with
  | some b1 => deliver (extendedEntry b1) 2 s
  | none => fail .outOfData s

/-- `UNDEFINED`, one of the eleven bytes of `spec/30_encoding.md` R100: `UndefinedOpcode(b)`, nothing consumed (R175). -/
def execUndefined (b : Byte) (s : State) : Host.Outcome State Fault Refusal := fail (.undefinedOpcode b) s

end Sys2Proof.Machine
end

