-- ==== Sys2Proof/Machine/Flow.lean ====
section
/-! DEFINITION. The meanings of the control-transfer forms (`spec/46_flow.md`): decoding one yields its class and payload and
consumes its bytes, through `deliver`. No target is computed and none is followed:
a transfer advances `POS` by its own length like any other form (R280). -/

namespace Sys2Proof.Machine

open Sys2Proof

/-- `JR e8`, 0x18 (R281). -/
def execJrE8 (e8 : Int) (s : State) : Host.Outcome State Fault Refusal := deliver (.jr e8) 2 s

/-- `JR NZ,e8`, 0x20 (R282). -/
def execJrNzE8 (e8 : Int) (s : State) : Host.Outcome State Fault Refusal := deliver (.jrCc .nz e8) 2 s

/-- `JR Z,e8`, 0x28 (R282). -/
def execJrZE8 (e8 : Int) (s : State) : Host.Outcome State Fault Refusal := deliver (.jrCc .z e8) 2 s

/-- `JR NC,e8`, 0x30 (R282). -/
def execJrNcE8 (e8 : Int) (s : State) : Host.Outcome State Fault Refusal := deliver (.jrCc .nc e8) 2 s

/-- `JR C,e8`, 0x38 (R282). -/
def execJrCE8 (e8 : Int) (s : State) : Host.Outcome State Fault Refusal := deliver (.jrCc .c e8) 2 s

/-- `RET NZ`, 0xC0 (R287). -/
def execRetNz (s : State) : Host.Outcome State Fault Refusal := deliver (.retCc .nz) 1 s

/-- `JP NZ,a16`, 0xC2 (R284). -/
def execJpNzA16 (a16 : Word) (s : State) : Host.Outcome State Fault Refusal := deliver (.jpCc .nz a16) 3 s

/-- `JP a16`, 0xC3 (R283). -/
def execJpA16 (a16 : Word) (s : State) : Host.Outcome State Fault Refusal := deliver (.jp a16) 3 s

/-- `CALL NZ,a16`, 0xC4 (R286). -/
def execCallNzA16 (a16 : Word) (s : State) : Host.Outcome State Fault Refusal := deliver (.callCc .nz a16) 3 s

/-- `RST 00H`, 0xC7 (R288). -/
def execRst00 (s : State) : Host.Outcome State Fault Refusal := deliver (.rst 0x00#8) 1 s

/-- `RET Z`, 0xC8 (R287). -/
def execRetZ (s : State) : Host.Outcome State Fault Refusal := deliver (.retCc .z) 1 s

/-- `JP Z,a16`, 0xCA (R284). -/
def execJpZA16 (a16 : Word) (s : State) : Host.Outcome State Fault Refusal := deliver (.jpCc .z a16) 3 s

/-- `CALL Z,a16`, 0xCC (R286). -/
def execCallZA16 (a16 : Word) (s : State) : Host.Outcome State Fault Refusal := deliver (.callCc .z a16) 3 s

/-- `CALL a16`, 0xCD (R285). -/
def execCallA16 (a16 : Word) (s : State) : Host.Outcome State Fault Refusal := deliver (.call a16) 3 s

/-- `RST 08H`, 0xCF (R288). -/
def execRst08 (s : State) : Host.Outcome State Fault Refusal := deliver (.rst 0x08#8) 1 s

/-- `RET NC`, 0xD0 (R287). -/
def execRetNc (s : State) : Host.Outcome State Fault Refusal := deliver (.retCc .nc) 1 s

/-- `JP NC,a16`, 0xD2 (R284). -/
def execJpNcA16 (a16 : Word) (s : State) : Host.Outcome State Fault Refusal := deliver (.jpCc .nc a16) 3 s

/-- `CALL NC,a16`, 0xD4 (R286). -/
def execCallNcA16 (a16 : Word) (s : State) : Host.Outcome State Fault Refusal := deliver (.callCc .nc a16) 3 s

/-- `RST 10H`, 0xD7 (R288). -/
def execRst10 (s : State) : Host.Outcome State Fault Refusal := deliver (.rst 0x10#8) 1 s

/-- `RET C`, 0xD8 (R287). -/
def execRetC (s : State) : Host.Outcome State Fault Refusal := deliver (.retCc .c) 1 s

/-- `JP C,a16`, 0xDA (R284). -/
def execJpCA16 (a16 : Word) (s : State) : Host.Outcome State Fault Refusal := deliver (.jpCc .c a16) 3 s

/-- `CALL C,a16`, 0xDC (R286). -/
def execCallCA16 (a16 : Word) (s : State) : Host.Outcome State Fault Refusal := deliver (.callCc .c a16) 3 s

/-- `RST 18H`, 0xDF (R288). -/
def execRst18 (s : State) : Host.Outcome State Fault Refusal := deliver (.rst 0x18#8) 1 s

/-- `RST 20H`, 0xE7 (R288). -/
def execRst20 (s : State) : Host.Outcome State Fault Refusal := deliver (.rst 0x20#8) 1 s

/-- `RST 28H`, 0xEF (R288). -/
def execRst28 (s : State) : Host.Outcome State Fault Refusal := deliver (.rst 0x28#8) 1 s

/-- `RST 30H`, 0xF7 (R288). -/
def execRst30 (s : State) : Host.Outcome State Fault Refusal := deliver (.rst 0x30#8) 1 s

/-- `RST 38H`, 0xFF (R288). -/
def execRst38 (s : State) : Host.Outcome State Fault Refusal := deliver (.rst 0x38#8) 1 s

end Sys2Proof.Machine
end

