-- ==== Sys2Proof/Machine/Loads.lean ====
section
/-! DEFINITION. The meanings of the load, store, move and stack forms (`spec/44_loads.md`): decoding one yields its class and payload and
consumes its bytes, through `deliver`. The block performs none of these loads and
stores (R220): the operand is reported as read. -/

namespace Sys2Proof.Machine

open Sys2Proof

/-- `LD BC,d16`, 0x01 (R222). -/
def execLdBcD16 (d16 : Word) (s : State) : Host.Outcome State Fault Refusal := deliver (.ldR16Imm .bc d16) 3 s

/-- `LD [BC],A`, 0x02 (R224). -/
def execLdMemBcA (s : State) : Host.Outcome State Fault Refusal := deliver (.stAInd .bc) 1 s

/-- `LD B,d8`, 0x06 (R221). -/
def execLdBD8 (d8 : Byte) (s : State) : Host.Outcome State Fault Refusal := deliver (.ldR8Imm .b d8) 2 s

/-- `LD [a16],SP`, 0x08 (R236). -/
def execLdMemA16Sp (a16 : Word) (s : State) : Host.Outcome State Fault Refusal := deliver (.stSpAbs a16) 3 s

/-- `LD A,[BC]`, 0x0A (R225). -/
def execLdAMemBc (s : State) : Host.Outcome State Fault Refusal := deliver (.ldAInd .bc) 1 s

/-- `LD C,d8`, 0x0E (R221). -/
def execLdCD8 (d8 : Byte) (s : State) : Host.Outcome State Fault Refusal := deliver (.ldR8Imm .c d8) 2 s

/-- `LD DE,d16`, 0x11 (R222). -/
def execLdDeD16 (d16 : Word) (s : State) : Host.Outcome State Fault Refusal := deliver (.ldR16Imm .de d16) 3 s

/-- `LD [DE],A`, 0x12 (R224). -/
def execLdMemDeA (s : State) : Host.Outcome State Fault Refusal := deliver (.stAInd .de) 1 s

/-- `LD D,d8`, 0x16 (R221). -/
def execLdDD8 (d8 : Byte) (s : State) : Host.Outcome State Fault Refusal := deliver (.ldR8Imm .d d8) 2 s

/-- `LD A,[DE]`, 0x1A (R225). -/
def execLdAMemDe (s : State) : Host.Outcome State Fault Refusal := deliver (.ldAInd .de) 1 s

/-- `LD E,d8`, 0x1E (R221). -/
def execLdED8 (d8 : Byte) (s : State) : Host.Outcome State Fault Refusal := deliver (.ldR8Imm .e d8) 2 s

/-- `LD HL,d16`, 0x21 (R222). -/
def execLdHlD16 (d16 : Word) (s : State) : Host.Outcome State Fault Refusal := deliver (.ldR16Imm .hl d16) 3 s

/-- `LD [HL+],A`, 0x22 (R226). -/
def execLdMemHlIncA (s : State) : Host.Outcome State Fault Refusal := deliver (.stAHli) 1 s

/-- `LD H,d8`, 0x26 (R221). -/
def execLdHD8 (d8 : Byte) (s : State) : Host.Outcome State Fault Refusal := deliver (.ldR8Imm .h d8) 2 s

/-- `LD A,[HL+]`, 0x2A (R228). -/
def execLdAMemHlInc (s : State) : Host.Outcome State Fault Refusal := deliver (.ldAHli) 1 s

/-- `LD L,d8`, 0x2E (R221). -/
def execLdLD8 (d8 : Byte) (s : State) : Host.Outcome State Fault Refusal := deliver (.ldR8Imm .l d8) 2 s

/-- `LD SP,d16`, 0x31 (R222). -/
def execLdSpD16 (d16 : Word) (s : State) : Host.Outcome State Fault Refusal := deliver (.ldR16Imm .sp d16) 3 s

/-- `LD [HL-],A`, 0x32 (R227). -/
def execLdMemHlDecA (s : State) : Host.Outcome State Fault Refusal := deliver (.stAHld) 1 s

/-- `LD [HL],d8`, 0x36 (R221). -/
def execLdMemHlD8 (d8 : Byte) (s : State) : Host.Outcome State Fault Refusal := deliver (.ldR8Imm .hlInd d8) 2 s

/-- `LD A,[HL-]`, 0x3A (R229). -/
def execLdAMemHlDec (s : State) : Host.Outcome State Fault Refusal := deliver (.ldAHld) 1 s

/-- `LD A,d8`, 0x3E (R221). -/
def execLdAD8 (d8 : Byte) (s : State) : Host.Outcome State Fault Refusal := deliver (.ldR8Imm .a d8) 2 s

/-- `LD B,B`, 0x40 (R223). -/
def execLdBB (s : State) : Host.Outcome State Fault Refusal := deliver (.ldR8R8 .b .b) 1 s

/-- `LD B,C`, 0x41 (R223). -/
def execLdBC (s : State) : Host.Outcome State Fault Refusal := deliver (.ldR8R8 .b .c) 1 s

/-- `LD B,D`, 0x42 (R223). -/
def execLdBD (s : State) : Host.Outcome State Fault Refusal := deliver (.ldR8R8 .b .d) 1 s

/-- `LD B,E`, 0x43 (R223). -/
def execLdBE (s : State) : Host.Outcome State Fault Refusal := deliver (.ldR8R8 .b .e) 1 s

/-- `LD B,H`, 0x44 (R223). -/
def execLdBH (s : State) : Host.Outcome State Fault Refusal := deliver (.ldR8R8 .b .h) 1 s

/-- `LD B,L`, 0x45 (R223). -/
def execLdBL (s : State) : Host.Outcome State Fault Refusal := deliver (.ldR8R8 .b .l) 1 s

/-- `LD B,[HL]`, 0x46 (R223). -/
def execLdBMemHl (s : State) : Host.Outcome State Fault Refusal := deliver (.ldR8R8 .b .hlInd) 1 s

/-- `LD B,A`, 0x47 (R223). -/
def execLdBA (s : State) : Host.Outcome State Fault Refusal := deliver (.ldR8R8 .b .a) 1 s

/-- `LD C,B`, 0x48 (R223). -/
def execLdCB (s : State) : Host.Outcome State Fault Refusal := deliver (.ldR8R8 .c .b) 1 s

/-- `LD C,C`, 0x49 (R223). -/
def execLdCC (s : State) : Host.Outcome State Fault Refusal := deliver (.ldR8R8 .c .c) 1 s

/-- `LD C,D`, 0x4A (R223). -/
def execLdCD (s : State) : Host.Outcome State Fault Refusal := deliver (.ldR8R8 .c .d) 1 s

/-- `LD C,E`, 0x4B (R223). -/
def execLdCE (s : State) : Host.Outcome State Fault Refusal := deliver (.ldR8R8 .c .e) 1 s

/-- `LD C,H`, 0x4C (R223). -/
def execLdCH (s : State) : Host.Outcome State Fault Refusal := deliver (.ldR8R8 .c .h) 1 s

/-- `LD C,L`, 0x4D (R223). -/
def execLdCL (s : State) : Host.Outcome State Fault Refusal := deliver (.ldR8R8 .c .l) 1 s

/-- `LD C,[HL]`, 0x4E (R223). -/
def execLdCMemHl (s : State) : Host.Outcome State Fault Refusal := deliver (.ldR8R8 .c .hlInd) 1 s

/-- `LD C,A`, 0x4F (R223). -/
def execLdCA (s : State) : Host.Outcome State Fault Refusal := deliver (.ldR8R8 .c .a) 1 s

/-- `LD D,B`, 0x50 (R223). -/
def execLdDB (s : State) : Host.Outcome State Fault Refusal := deliver (.ldR8R8 .d .b) 1 s

/-- `LD D,C`, 0x51 (R223). -/
def execLdDC (s : State) : Host.Outcome State Fault Refusal := deliver (.ldR8R8 .d .c) 1 s

/-- `LD D,D`, 0x52 (R223). -/
def execLdDD (s : State) : Host.Outcome State Fault Refusal := deliver (.ldR8R8 .d .d) 1 s

/-- `LD D,E`, 0x53 (R223). -/
def execLdDE (s : State) : Host.Outcome State Fault Refusal := deliver (.ldR8R8 .d .e) 1 s

/-- `LD D,H`, 0x54 (R223). -/
def execLdDH (s : State) : Host.Outcome State Fault Refusal := deliver (.ldR8R8 .d .h) 1 s

/-- `LD D,L`, 0x55 (R223). -/
def execLdDL (s : State) : Host.Outcome State Fault Refusal := deliver (.ldR8R8 .d .l) 1 s

/-- `LD D,[HL]`, 0x56 (R223). -/
def execLdDMemHl (s : State) : Host.Outcome State Fault Refusal := deliver (.ldR8R8 .d .hlInd) 1 s

/-- `LD D,A`, 0x57 (R223). -/
def execLdDA (s : State) : Host.Outcome State Fault Refusal := deliver (.ldR8R8 .d .a) 1 s

/-- `LD E,B`, 0x58 (R223). -/
def execLdEB (s : State) : Host.Outcome State Fault Refusal := deliver (.ldR8R8 .e .b) 1 s

/-- `LD E,C`, 0x59 (R223). -/
def execLdEC (s : State) : Host.Outcome State Fault Refusal := deliver (.ldR8R8 .e .c) 1 s

/-- `LD E,D`, 0x5A (R223). -/
def execLdED (s : State) : Host.Outcome State Fault Refusal := deliver (.ldR8R8 .e .d) 1 s

/-- `LD E,E`, 0x5B (R223). -/
def execLdEE (s : State) : Host.Outcome State Fault Refusal := deliver (.ldR8R8 .e .e) 1 s

/-- `LD E,H`, 0x5C (R223). -/
def execLdEH (s : State) : Host.Outcome State Fault Refusal := deliver (.ldR8R8 .e .h) 1 s

/-- `LD E,L`, 0x5D (R223). -/
def execLdEL (s : State) : Host.Outcome State Fault Refusal := deliver (.ldR8R8 .e .l) 1 s

/-- `LD E,[HL]`, 0x5E (R223). -/
def execLdEMemHl (s : State) : Host.Outcome State Fault Refusal := deliver (.ldR8R8 .e .hlInd) 1 s

/-- `LD E,A`, 0x5F (R223). -/
def execLdEA (s : State) : Host.Outcome State Fault Refusal := deliver (.ldR8R8 .e .a) 1 s

/-- `LD H,B`, 0x60 (R223). -/
def execLdHB (s : State) : Host.Outcome State Fault Refusal := deliver (.ldR8R8 .h .b) 1 s

/-- `LD H,C`, 0x61 (R223). -/
def execLdHC (s : State) : Host.Outcome State Fault Refusal := deliver (.ldR8R8 .h .c) 1 s

/-- `LD H,D`, 0x62 (R223). -/
def execLdHD (s : State) : Host.Outcome State Fault Refusal := deliver (.ldR8R8 .h .d) 1 s

/-- `LD H,E`, 0x63 (R223). -/
def execLdHE (s : State) : Host.Outcome State Fault Refusal := deliver (.ldR8R8 .h .e) 1 s

/-- `LD H,H`, 0x64 (R223). -/
def execLdHH (s : State) : Host.Outcome State Fault Refusal := deliver (.ldR8R8 .h .h) 1 s

/-- `LD H,L`, 0x65 (R223). -/
def execLdHL (s : State) : Host.Outcome State Fault Refusal := deliver (.ldR8R8 .h .l) 1 s

/-- `LD H,[HL]`, 0x66 (R223). -/
def execLdHMemHl (s : State) : Host.Outcome State Fault Refusal := deliver (.ldR8R8 .h .hlInd) 1 s

/-- `LD H,A`, 0x67 (R223). -/
def execLdHA (s : State) : Host.Outcome State Fault Refusal := deliver (.ldR8R8 .h .a) 1 s

/-- `LD L,B`, 0x68 (R223). -/
def execLdLB (s : State) : Host.Outcome State Fault Refusal := deliver (.ldR8R8 .l .b) 1 s

/-- `LD L,C`, 0x69 (R223). -/
def execLdLC (s : State) : Host.Outcome State Fault Refusal := deliver (.ldR8R8 .l .c) 1 s

/-- `LD L,D`, 0x6A (R223). -/
def execLdLD (s : State) : Host.Outcome State Fault Refusal := deliver (.ldR8R8 .l .d) 1 s

/-- `LD L,E`, 0x6B (R223). -/
def execLdLE (s : State) : Host.Outcome State Fault Refusal := deliver (.ldR8R8 .l .e) 1 s

/-- `LD L,H`, 0x6C (R223). -/
def execLdLH (s : State) : Host.Outcome State Fault Refusal := deliver (.ldR8R8 .l .h) 1 s

/-- `LD L,L`, 0x6D (R223). -/
def execLdLL (s : State) : Host.Outcome State Fault Refusal := deliver (.ldR8R8 .l .l) 1 s

/-- `LD L,[HL]`, 0x6E (R223). -/
def execLdLMemHl (s : State) : Host.Outcome State Fault Refusal := deliver (.ldR8R8 .l .hlInd) 1 s

/-- `LD L,A`, 0x6F (R223). -/
def execLdLA (s : State) : Host.Outcome State Fault Refusal := deliver (.ldR8R8 .l .a) 1 s

/-- `LD [HL],B`, 0x70 (R223). -/
def execLdMemHlB (s : State) : Host.Outcome State Fault Refusal := deliver (.ldR8R8 .hlInd .b) 1 s

/-- `LD [HL],C`, 0x71 (R223). -/
def execLdMemHlC (s : State) : Host.Outcome State Fault Refusal := deliver (.ldR8R8 .hlInd .c) 1 s

/-- `LD [HL],D`, 0x72 (R223). -/
def execLdMemHlD (s : State) : Host.Outcome State Fault Refusal := deliver (.ldR8R8 .hlInd .d) 1 s

/-- `LD [HL],E`, 0x73 (R223). -/
def execLdMemHlE (s : State) : Host.Outcome State Fault Refusal := deliver (.ldR8R8 .hlInd .e) 1 s

/-- `LD [HL],H`, 0x74 (R223). -/
def execLdMemHlH (s : State) : Host.Outcome State Fault Refusal := deliver (.ldR8R8 .hlInd .h) 1 s

/-- `LD [HL],L`, 0x75 (R223). -/
def execLdMemHlL (s : State) : Host.Outcome State Fault Refusal := deliver (.ldR8R8 .hlInd .l) 1 s

/-- `LD [HL],A`, 0x77 (R223). -/
def execLdMemHlA (s : State) : Host.Outcome State Fault Refusal := deliver (.ldR8R8 .hlInd .a) 1 s

/-- `LD A,B`, 0x78 (R223). -/
def execLdAB (s : State) : Host.Outcome State Fault Refusal := deliver (.ldR8R8 .a .b) 1 s

/-- `LD A,C`, 0x79 (R223). -/
def execLdAC (s : State) : Host.Outcome State Fault Refusal := deliver (.ldR8R8 .a .c) 1 s

/-- `LD A,D`, 0x7A (R223). -/
def execLdAD (s : State) : Host.Outcome State Fault Refusal := deliver (.ldR8R8 .a .d) 1 s

/-- `LD A,E`, 0x7B (R223). -/
def execLdAE (s : State) : Host.Outcome State Fault Refusal := deliver (.ldR8R8 .a .e) 1 s

/-- `LD A,H`, 0x7C (R223). -/
def execLdAH (s : State) : Host.Outcome State Fault Refusal := deliver (.ldR8R8 .a .h) 1 s

/-- `LD A,L`, 0x7D (R223). -/
def execLdAL (s : State) : Host.Outcome State Fault Refusal := deliver (.ldR8R8 .a .l) 1 s

/-- `LD A,[HL]`, 0x7E (R223). -/
def execLdAMemHl (s : State) : Host.Outcome State Fault Refusal := deliver (.ldR8R8 .a .hlInd) 1 s

/-- `LD A,A`, 0x7F (R223). -/
def execLdAA (s : State) : Host.Outcome State Fault Refusal := deliver (.ldR8R8 .a .a) 1 s

/-- `POP BC`, 0xC1 (R239). -/
def execPopBc (s : State) : Host.Outcome State Fault Refusal := deliver (.pop .bc) 1 s

/-- `PUSH BC`, 0xC5 (R238). -/
def execPushBc (s : State) : Host.Outcome State Fault Refusal := deliver (.push .bc) 1 s

/-- `POP DE`, 0xD1 (R239). -/
def execPopDe (s : State) : Host.Outcome State Fault Refusal := deliver (.pop .de) 1 s

/-- `PUSH DE`, 0xD5 (R238). -/
def execPushDe (s : State) : Host.Outcome State Fault Refusal := deliver (.push .de) 1 s

/-- `LDH [a8],A`, 0xE0 (R230). -/
def execLdhMemA8A (a8 : Byte) (s : State) : Host.Outcome State Fault Refusal := deliver (.stAHigh a8) 2 s

/-- `POP HL`, 0xE1 (R239). -/
def execPopHl (s : State) : Host.Outcome State Fault Refusal := deliver (.pop .hl) 1 s

/-- `LDH [C],A`, 0xE2 (R232). -/
def execLdhMemCA (s : State) : Host.Outcome State Fault Refusal := deliver (.stAHighC) 1 s

/-- `PUSH HL`, 0xE5 (R238). -/
def execPushHl (s : State) : Host.Outcome State Fault Refusal := deliver (.push .hl) 1 s

/-- `LD [a16],A`, 0xEA (R234). -/
def execLdMemA16A (a16 : Word) (s : State) : Host.Outcome State Fault Refusal := deliver (.stAAbs a16) 3 s

/-- `LDH A,[a8]`, 0xF0 (R231). -/
def execLdhAMemA8 (a8 : Byte) (s : State) : Host.Outcome State Fault Refusal := deliver (.ldAHigh a8) 2 s

/-- `POP AF`, 0xF1 (R239). -/
def execPopAf (s : State) : Host.Outcome State Fault Refusal := deliver (.pop .af) 1 s

/-- `LDH A,[C]`, 0xF2 (R233). -/
def execLdhAMemC (s : State) : Host.Outcome State Fault Refusal := deliver (.ldAHighC) 1 s

/-- `PUSH AF`, 0xF5 (R238). -/
def execPushAf (s : State) : Host.Outcome State Fault Refusal := deliver (.push .af) 1 s

/-- `LD HL,SP+e8`, 0xF8 (R237). -/
def execLdHlSpE8 (e8 : Int) (s : State) : Host.Outcome State Fault Refusal := deliver (.ldHlSpOff e8) 2 s

/-- `LD A,[a16]`, 0xFA (R235). -/
def execLdAMemA16 (a16 : Word) (s : State) : Host.Outcome State Fault Refusal := deliver (.ldAAbs a16) 3 s

end Sys2Proof.Machine
end

