-- ==== Sys2Proof/Machine/Readers.lean ====
section
/-! DEFINITION. The primitive field readers (`spec/40_field_readers.md`): each takes a local position and answers the
value and the advanced position, or fails with nothing consumed (R120). -/

namespace Sys2Proof.Machine

open Sys2Proof

/-- `read_u8(p)` (R121). -/
def State.readU8 (s : State) (p : Nat) : Except Error (Byte × Nat) :=
  match s.memRead p 1 with
  | .ok bs => .ok (bs.headD Memory.blankByte, p + 1)
  | .error e => .error e

/-- `read_u16(p, order)` (R122). -/
def State.readU16 (s : State) (p : Nat) (order : ByteOrder) : Except Error (Word × Nat) :=
  match s.memRead p 2 with
  | .ok bs => .ok (word16 order (bs.getD 0 Memory.blankByte) (bs.getD 1 Memory.blankByte), p + 2)
  | .error e => .error e

/-- `read_bytes(p, n)` (R123). -/
def State.readBytes (s : State) (p n : Nat) : Except Error (List Byte × Nat) :=
  match s.memRead p n with
  | .ok bs => .ok (bs, p + n)
  | .error e => .error e

/-- `TEXT_VALID`: every byte is below 0x80 (R124; `spec/92_eei_decisions.md` D15). -/
def textValid (bs : List Byte) : Bool := bs.all fun b => decide (b.toNat < 0x80)

/-- `read_text(p, n)`: the bytes must exist before they are judged (R124). -/
def State.readText (s : State) (p n : Nat) : Except Error (List Byte × Nat) :=
  match s.memRead p n with
  | .ok bs => if textValid bs then .ok (bs, p + n) else .error .invalidText
  | .error e => .error e

/-- `skip(p, n)` (R125). -/
def State.skip (s : State) (p n : Nat) : Except Error Nat :=
  match s.memRead p n with
  | .ok _ => .ok (p + n)
  | .error e => .error e

end Sys2Proof.Machine
end

