-- ==== Sys2Proof/Machine/Header.lean ====
section
/-! DEFINITION. The header translators, the header parser and the header validator (`spec/41_header.md`). None of them
touches the cursor. -/

namespace Sys2Proof.Machine

open Sys2Proof

/-! ## Translators -/

/-- ROM-size byte to bank count, for the twelve defined bytes (`spec/41_header.md` R131). -/
def romBankTable : List (Byte × Nat) :=
  [(0x00#8, 2), (0x01#8, 4), (0x02#8, 8), (0x03#8, 16), (0x04#8, 32), (0x05#8, 64)] ++
  [(0x06#8, 128), (0x07#8, 256), (0x08#8, 512), (0x52#8, 72), (0x53#8, 80), (0x54#8, 96)]

/-- `rom_banks_of(b)` (R131, R132). -/
def romBanksOf (b : Byte) : Except Error Nat :=
  match romBankTable.lookup b with
  | some n => .ok n
  | none => .error (.unknownRomSize b)

/-- RAM-size byte to bank count and bank size in bytes, for the six defined bytes (R133). -/
def ramGeomTable : List (Byte × (Nat × Nat)) :=
  [(0x00#8, (0, 0)), (0x01#8, (1, 2048)), (0x02#8, (1, 8192))] ++
  [(0x03#8, (4, 8192)), (0x04#8, (16, 8192)), (0x05#8, (8, 8192))]

/-- `ram_geom_of(b)` (R133, R134). -/
def ramGeomOf (b : Byte) : Except Error (Nat × Nat) :=
  match ramGeomTable.lookup b with
  | some g => .ok g
  | none => .error (.unknownRamSize b)

/-- `cart_type_of(b)`: total, and the raw byte is kept (R135). -/
def cartTypeOf (b : Byte) : CartType := { raw := b }

/-- The name of a cartridge type: one of 25 named variants, or `Other` with the unrecognised byte
(`spec/10_state.md` R35). -/
inductive CartName where
  | named (k : Fin 25)
  | other (b : Byte)
  deriving DecidableEq, Repr

/-- Whether the free assignment `Config.cartCode` reaches all 25 codes, as R135 requires of `CART_NAME`. -/
@[irreducible] def cartCodesComplete : Bool :=
  (List.finRange 25).all fun k => (List.finRange 256).any fun n => Config.cartCode (BitVec.ofFin n) == some k

/-- The assignment of bytes to the 25 codes: the free one where it reaches all 25, and otherwise code `k` for byte `k`.
Every assignment with exactly 25 names is a possible value of it. Log entry 4. -/
def cartCodeOf (b : Byte) : Option (Fin 25) :=
  if cartCodesComplete then Config.cartCode b
  else if h : b.toNat < 25 then some ⟨b.toNat, h⟩ else none

/-- `CART_NAME(b)`: a function of `b` alone, defined on all 256 bytes (R135). -/
def cartName (b : Byte) : CartName :=
  match cartCodeOf b with
  | some k => .named k
  | none => .other b

/-- The second half of `cart_type_of(b) = (b, CART_NAME(b))` (R135). -/
def cartTypeName (t : CartType) : CartName := cartName t.raw

/-! ## The parser -/

/-- Bytes skipped before the first header field (`spec/00_scope.md` R9). -/
def headerSkip : Nat := 0x104

/-- `PARSE_HEADER`, its steps in the order and with the early exits of `spec/41_header.md` R140. -/
def State.parseHeader (s : State) : Except Error HeaderRecord := do
  let p ← s.skip 0 headerSkip
  let (fingerprint, p) ← s.readBytes p 48
  let (title, p) ← s.readText p 15
  let (cb, p) ← s.readU8 p
  let (newLicensee, p) ← s.readBytes p 2
  let (sb, p) ← s.readU8 p
  let (tb, p) ← s.readU8 p
  let (rb, p) ← s.readU8 p
  let romBanks ← romBanksOf rb
  let (mb, p) ← s.readU8 p
  let (ramBanks, ramBankSize) ← ramGeomOf mb
  let (gb, p) ← s.readU8 p
  let (oldLicensee, p) ← s.readU8 p
  let (maskRomVersion, p) ← s.readU8 p
  let (complement, p) ← s.readU8 p
  let (checksum, _) ← s.readU16 p .be
  return { fingerprint, title, color := cb == 0x80#8, newLicensee, super := sb == 0x03#8, cartType := cartTypeOf tb,
           romBanks, ramBanks, ramBankSize, japanese := gb == 0x00#8, oldLicensee, maskRomVersion, complement, checksum }

/-! ## The validator -/

/-- The exact sum of the fingerprint bytes, a natural number (R151). -/
def byteSum (bs : List Byte) : Nat := (bs.map BitVec.toNat).sum

/-- The bitwise OR of the fingerprint bytes (R150). -/
def byteOr (bs : List Byte) : Byte := bs.foldr (· ||| ·) 0x00#8

/-- The bitwise AND of the fingerprint bytes (R150). -/
def byteAnd (bs : List Byte) : Byte := bs.foldr (· &&& ·) 0xFF#8

/-- The bitwise XOR of the fingerprint bytes (R150). -/
def byteXor (bs : List Byte) : Byte := bs.foldr (· ^^^ ·) 0x00#8

/-- Rule 1 of the validator: the four constants at once (R151). -/
def logoPasses (bs : List Byte) : Bool :=
  byteSum bs == 5446 && byteOr bs == 255#8 && byteAnd bs == 0#8 && byteXor bs == 134#8

/-- `VALIDATE(h)`: `none` is `Ok`; the fingerprint check comes before the licensee check (R150, R152, R153). -/
def validate (h : HeaderRecord) : Option ValidationError :=
  if !logoPasses h.fingerprint then some .logoMismatch
  else if h.super && h.oldLicensee != 0x33#8 then some .licenseeMismatch
  else none

end Sys2Proof.Machine
end

