-- ==== Sys2Proof/Machine/Serve.lean ====
section
/-! DEFINITION. The six operations of `spec/10_state.md` R40, each served as one atomic step (`spec/00_scope.md` R7). -/

namespace Sys2Proof.Machine

open Sys2Proof

/-- One `DECODE` at an offset under the operation being served: the bytes there select a row and the row's meaning
runs; bytes that select none fail with the decoder's error (`spec/42_decoder_top.md` R170, R176). -/
def runAt (off : Nat) (s : State) : Host.Outcome State Fault Refusal :=
  match decode (s.window off) with
  | .ok (i, _) => exec i s
  | .error e => fail e s

/-- A request of the cursor (`spec/48_stream_cursor.md` R322, R323, R326, R328): refused where no cursor was
constructed; answered with `whenExhausted` and no further change where it is exhausted; else one decode at `POS`. -/
def stepCursor (op : DecodeOp) (whenExhausted : Response) (s : State) : Host.Outcome State Fault Refusal :=
  if !s.constructed then .refused .cursorNeverConstructed
  else if s.isExhausted then .next ({ s with op := op }.respond whenExhausted)
  else runAt s.pos { s with op := op }

/-- `PARSE_HEADER` as an operation: its outcome is handed to the host and no state is written (`spec/41_header.md` R140,
R143). -/
def serveParseHeader (s : State) : Host.Outcome State Fault Refusal :=
  match s.parseHeader with
  | .ok h => .next (s.respond (.headerOk h))
  | .error e => .next (s.respond (.headerErr e))

/-- `VALIDATE(h)` as an operation (`spec/41_header.md` R150, R154). -/
def serveValidate (h : HeaderRecord) (s : State) : Host.Outcome State Fault Refusal :=
  match validate h with
  | none => .next (s.respond .valid)
  | some v => .next (s.respond (.invalid v))

/-- One request, once it is off the queue. -/
def serve (r : Request) (s : State) : Host.Outcome State Fault Refusal :=
  match r with
  | .parseHeader => serveParseHeader s
  | .validate h => serveValidate h s
  | .decode off => runAt off { s with op := .direct off }
  | .init start => .next (s.initCursor start)
  | .next => stepCursor .next .nextNone s
  | .nextE => stepCursor .nextE (.ended s.cause) s

end Sys2Proof.Machine
end

