-- ==== Sys2Proof/Machine/Step.lean ====
section
/-! DEFINITION. One step of the machine: the oldest pending request is served to completion. -/

namespace Sys2Proof.Machine

open Sys2Proof

/-- One atomic operation (`spec/00_scope.md` R7). With no request pending nothing happens: no decode happens between
requests (`spec/48_stream_cursor.md` R329). -/
def step (s : State) : Host.Outcome State Fault Refusal :=
  match s.requests with
  | [] => .next s
  | r :: rest => serve r { s with requests := rest }

/-- `s` with a table word placed where the next step fetches: its bytes, completed with zero bytes, at `POS` of a
positioned cursor with `NEXT` the oldest pending request (log entry 6). -/
def State.withFetchWord (s : State) (nbits w : Nat) : State := s.placeAtCursor (tableBytes nbits w)

end Sys2Proof.Machine
end

