-- ==== Sys2Proof/Machine/Reference.lean ====
section
/-! DEFINITION. `DECODE` and the sequence `S` as the spec writes them: the reader-by-reader pseudocode of
`spec/42_decoder_top.md` R170 over the class tables of Machine/Classes.lean, and the recursion of
`spec/48_stream_cursor.md` R331. The machine runs by the row decoder and the dispatch; these are what it is held to. -/

namespace Sys2Proof.Machine

open Sys2Proof

/-- `DECODE(off)` (R170), its reads and tests in the order written there. -/
def State.decodeRef (s : State) (off : Nat) : Except Error (Instruction × Nat) := do
  let (b0, p) ← s.readU8 off
  if b0 = escapeByte then
    let (b1, _) ← s.readU8 p
    return (extendedEntry b1, 2)
  if undefinedBytes.contains b0 then
    throw (.undefinedOpcode b0)
  match formatOf b0 with
  | .opD8 =>
    let (b1, _) ← s.readU8 p
    return (immediateClass b0 b1, 2)
  | .opA8 =>
    let (b1, _) ← s.readU8 p
    return (highPageClass b0 b1, 2)
  | .opE8 =>
    let (b1, _) ← s.readU8 p
    return (offsetClass b0 (sint8 b1), 2)
  | .opD16 =>
    let (v, _) ← s.readU16 p .le
    return (wideImmediateClass b0 v, 3)
  | .opA16 =>
    let (v, _) ← s.readU16 p .le
    return (addressClass b0 v, 3)
  | .op | .cbOp | .esc | .undef => return (plainClass b0, 1)

/-- The items `S(p)` a cursor at `p` yields, cut off after `fuel` of them (R331). -/
def State.itemsRef (s : State) : Nat → Nat → List Instruction
  | 0, _ => []
  | fuel + 1, p =>
    match s.decodeRef p with
    | .ok (i, n) => i :: s.itemsRef fuel (p + n)
    | .error _ => []

end Sys2Proof.Machine
end

