-- ==== Sys2Proof/Safety.lean ====
section
/-! DEFINITION. What a well-formed state is, in the terms the statements use: the invariant of `spec/10_state.md` R27 and
the shape of everything the block returns (R32, R34; `spec/60_exceptions.md` R347). -/

namespace Sys2Proof.Machine

open Sys2Proof

/-- The two failures a decode can have, so the only values of a meaningful `CAUSE`
(`spec/10_state.md` R26; `spec/60_exceptions.md` R347): `OutOfData`, and `UndefinedOpcode` of one of the eleven bytes. -/
def isDecodeFailure : Error → Bool
  | .outOfData => true
  | .undefinedOpcode b => undefinedBytes.contains b
  | .invalidText | .unknownRomSize _ | .unknownRamSize _ => false

/-- The failures `PARSE_HEADER` can have (`spec/60_exceptions.md` R347). -/
def isHeaderFailure : Error → Bool
  | .outOfData | .invalidText => true
  | .unknownRomSize b => (romBankTable.lookup b).isNone
  | .unknownRamSize b => (ramGeomTable.lookup b).isNone
  | .undefinedOpcode _ => false

/-- The shape of a parsed record (`spec/10_state.md` R34): the lengths of its byte runs, valid title text. -/
def headerWf (h : HeaderRecord) : Bool :=
  h.fingerprint.length == 48 && h.title.length == 15 && textValid h.title && h.newLicensee.length == 2

/-- The shape of a response: a delivered instruction obeys the class table's payload restrictions (`spec/10_state.md`
R31, R32), a direct decode consumed 1, 2 or 3 bytes (`spec/42_decoder_top.md` R170), and each operation returns only
the failures of its row in `spec/60_exceptions.md` R347. -/
def responseWf : Response → Bool
  | .headerOk h => headerWf h
  | .headerErr e => isHeaderFailure e
  | .decodeOk i n => i.wf && decide (1 ≤ n) && decide (n ≤ 3)
  | .decodeErr e | .ended e => isDecodeFailure e
  | .nextSome i | .item i => i.wf
  | .valid | .invalid _ | .nextNone => true

/-- The invariant: the ROM is in canonical form and lists nothing at or beyond `LEN`; a constructed cursor has
`POS <= LEN` (`spec/10_state.md` R27); the cause of an exhausted cursor is a decode failure (R26); and everything
delivered has its proper shape. -/
structure Inv (s : State) : Prop where
  romCanonical : Memory.wf s.rom = true
  romWithinLen : Memory.below s.rom s.len = true
  posWithinLen : s.constructed = true → s.pos ≤ s.len
  causeIsDecodeFailure : s.constructed = true → s.st = .exhausted → isDecodeFailure s.cause = true
  responsesWf : ∀ r ∈ s.delivered, responseWf r = true

end Sys2Proof.Machine
end

