-- ==== Sys2Proof/Certificates/Slice0/Obligations.lean ====
section
/-! DEFINITION. The statements for the provers, over the model as it stands, from the numbered rules of `spec/`.
Before them, the few words they are written in: the tables of selector codes, what a state becomes after a decode or a
failure, what it is for bytes to stand in the ROM, and what `DECODE` answers. -/

namespace Sys2Proof.Machine

open Sys2Proof

/-- `R8`: the member of `Register8` with a code, in the order B, C, D, E, H, L, [HL], A (`spec/10_state.md` R21). -/
def memberR8 (y : BitVec 3) : Register8 := ([.b, .c, .d, .e, .h, .l, .hlInd, .a] : List Register8).getD y.toNat .a

/-- The 16-bit selectors with code 3 = SP (`spec/10_state.md` R22). -/
def memberSp (p : BitVec 2) : Register16 := ([.bc, .de, .hl, .sp] : List Register16).getD p.toNat .sp

/-- The 16-bit selectors with code 3 = AF (`spec/10_state.md` R22). -/
def memberAf (p : BitVec 2) : Register16 := ([.bc, .de, .hl, .af] : List Register16).getD p.toNat .af

/-- The conditions NZ, Z, NC, C (`spec/10_state.md` R23). -/
def memberCc (cc : BitVec 2) : Cond := ([.nz, .z, .nc, .c] : List Cond).getD cc.toNat .c

/-- The state once the operation being served has decoded class `v` from `n` bytes: a direct `DECODE` only answers
(`spec/42_decoder_top.md` R170), `NEXT` and `NEXT_E` also advance `POS` (`spec/48_stream_cursor.md` R324, R326). Every
other field is as before. -/
def afterDecode (s : State) (v : Instruction) (n : Nat) : State :=
  match s.op with
  | .direct _ => { s with delivered := .decodeOk v n :: s.delivered }
  | .next => { s with pos := s.pos + n, delivered := .nextSome v :: s.delivered }
  | .nextE => { s with pos := s.pos + n, delivered := .item v :: s.delivered }

/-- The state once the decode of the operation being served has failed with `e`: a direct `DECODE` only answers
(`spec/60_exceptions.md` R360), `NEXT` and `NEXT_E` also set `ST` and `CAUSE` (R361). Every other field is as before. -/
def afterFailure (s : State) (e : Error) : State :=
  match s.op with
  | .direct _ => { s with delivered := .decodeErr e :: s.delivered }
  | .next => { s with st := .exhausted, cause := e, delivered := .nextNone :: s.delivered }
  | .nextE => { s with st := .exhausted, cause := e, delivered := .ended e :: s.delivered }

/-- The bytes stand in the ROM from offset `off` on, below `LEN`. -/
def Holds (s : State) (off : Nat) (bytes : List Byte) : Prop :=
  off + bytes.length ≤ s.len ∧ ∀ k (h : k < bytes.length), s.rom.read (off + k) = bytes[k]

/-- `DECODE(off)` answers `r` and changes nothing of the spec's state. -/
def DecodeAnswers (s : State) (off : Nat) (r : Response) : Prop :=
  serve (.decode off) s = .next { s with op := .direct off, delivered := r :: s.delivered }

/-- A form of the instruction set: the bytes select the row, whatever follows them; the row's execution completes in every
state, with its class and its length; and `DECODE` at the bytes returns that class and that length. -/
def Form (row : Instr) (bytes : List Byte) (v : Instruction) : Prop :=
  (∀ rest, decode (bytes ++ rest) = .ok (row, bytes.length)) ∧
  (∀ s, exec row s = .next (afterDecode s v bytes.length)) ∧
  ∀ s off, Holds s off bytes → DecodeAnswers s off (.decodeOk v bytes.length)

/-- Cut off by the end of the buffer after some but not all of its bytes, the form fails with `OutOfData`
(`spec/42_decoder_top.md` R176). -/
def CutOffFails (bytes : List Byte) : Prop :=
  ∀ s off k, 0 < k → k < bytes.length → s.len = off + k → Holds s off (bytes.take k) →
    DecodeAnswers s off (.decodeErr .outOfData)

/-- The length of the encoding a first byte begins, for a byte that is not undefined (`spec/30_encoding.md` R80, R91, R92). -/
def encodingLength (b0 : Byte) : Nat :=
  if b0 = 0xCB#8 ∨ b0 ∈ oneOperandBytes then 2 else if b0 ∈ twoOperandBytes then 3 else 1

/-- `n` bytes of the ROM from offset `p` on. -/
def romBytes (s : State) (p n : Nat) : List Byte := (List.range n).map fun k => s.rom.read (p + k)

/-- The outcome of `PARSE_HEADER` as the table of `spec/41_header.md` R141 decides it, with the record of R140. -/
def headerOutcome (s : State) : Response :=
  let rb := s.rom.read 0x148
  let mb := s.rom.read 0x149
  if s.len < 0x143 then .headerErr .outOfData
  else if ¬ ∀ b ∈ romBytes s 0x134 15, b.toNat < 0x80 then .headerErr .invalidText
  else if s.len < 0x149 then .headerErr .outOfData
  else if ¬ (rb.toNat ≤ 0x08 ∨ (0x52 ≤ rb.toNat ∧ rb.toNat ≤ 0x54)) then .headerErr (.unknownRomSize rb)
  else if s.len < 0x14A then .headerErr .outOfData
  else if 0x05 < mb.toNat then .headerErr (.unknownRamSize mb)
  else if s.len < 0x150 then .headerErr .outOfData
  else .headerOk {
    fingerprint := romBytes s 0x104 48
    title := romBytes s 0x134 15
    color := decide (s.rom.read 0x143 = 0x80#8)
    newLicensee := [s.rom.read 0x144, s.rom.read 0x145]
    super := decide (s.rom.read 0x146 = 0x03#8)
    cartType := { raw := s.rom.read 0x147 }
    romBanks := (romBankTable.lookup rb).getD 0
    ramBanks := ((ramGeomTable.lookup mb).getD (0, 0)).1
    ramBankSize := ((ramGeomTable.lookup mb).getD (0, 0)).2
    japanese := decide (s.rom.read 0x14A = 0x00#8)
    oldLicensee := s.rom.read 0x14B
    maskRomVersion := s.rom.read 0x14C
    complement := s.rom.read 0x14D
    checksum := s.rom.read 0x14E ++ s.rom.read 0x14F }

/-- Rule 1 of the validator, said bit by bit (`spec/41_header.md` R151): the exact sum is 5446; every bit is set in some
byte (OR 255) and clear in some byte (AND 0); the parity of each bit is that bit of 134 (XOR 134). -/
def LogoRule (bs : List Byte) : Prop :=
  (bs.map BitVec.toNat).sum = 5446 ∧
  (∀ k, k < 8 → ∃ b ∈ bs, b.getLsbD k = true) ∧
  (∀ k, k < 8 → ∃ b ∈ bs, b.getLsbD k = false) ∧
  ∀ k, k < 8 → decide ((bs.filter fun b => b.getLsbD k).length % 2 = 1) = (134#8).getLsbD k

/-- The request is an `INIT`. -/
def isInit : Request → Bool
  | .init _ => true
  | .parseHeader | .validate _ | .decode _ | .next | .nextE => false

/-- The request is one of the pure operations `PARSE_HEADER`, `VALIDATE`, `DECODE`. -/
def isPure : Request → Bool
  | .parseHeader | .validate _ | .decode _ => true
  | .init _ | .next | .nextE => false

/-- The outcomes of each operation (`spec/10_state.md` R40) with the failures it can have (`spec/60_exceptions.md` R347). -/
def mayAnswer : Request → Response → Bool
  | .parseHeader, .headerOk _ => true
  | .parseHeader, .headerErr e => isHeaderFailure e
  | .validate _, .valid => true
  | .validate _, .invalid _ => true
  | .decode _, .decodeOk _ _ => true
  | .decode _, .decodeErr e => isDecodeFailure e
  | .next, .nextSome _ => true
  | .next, .nextNone => true
  | .nextE, .item _ => true
  | .nextE, .ended e => isDecodeFailure e
  | _, _ => false

end Sys2Proof.Machine

open Sys2Proof Sys2Proof.Machine

/-- O1 (derived; 30_encoding.md R80, 30_encoding.md R81, 30_encoding.md R92, 30_encoding.md R93, 30_encoding.md R97,
10_state.md R31). For every well-formed row of the opcode table other than the escape row PREFIX_CB (which is no
instruction: with a byte after it the escape selects that byte's extended row), the bytes of its encoding followed by
any bytes decode to that row and to the number of its bytes. Every operand at every value the encoding admits is
covered. -/
def Obligations.DecodeUndoesEncode : Prop :=
  ∀ i : Instr, i.wf = true → i ≠ .prefixCb → ∀ rest, decode (encode i ++ rest) = .ok (i, (encode i).length)

/-- O2 (derived; 30_encoding.md R80, 30_encoding.md R101, 30_encoding.md R112, 42_decoder_top.md R177). If some bytes
decode to a row and a length, the row is well-formed, the length is that of the row's encoding, and the encoding is
exactly the bytes consumed. So no two byte strings of the decoder's length select the same row with the same operand.
-/
def Obligations.EncodeUndoesDecode : Prop :=
  ∀ (bs : List Byte) (i : Instr) (n : Nat), decode bs = .ok (i, n) →
    i.wf = true ∧ n = (encode i).length ∧ encode i = bs.take n

/-- O3 (derived; 95_test_vectors.md Part 1, 44_loads.md R221, 46_flow.md R283, 30_encoding.md R102, 30_encoding.md
R84, 30_encoding.md R85, 47_extended.md R311). 0x00 is NOP; 0x76 is HALT; 0x3E 0x42 is LD A,d8 with 0x42; 0xC3 0x34
0x12 is JP a16 with 0x1234; 0x78 is LD A,B; 0x9F is SBC A,A; 0xCB 0xDD is SET 3,L. A sanity check of the decoder on
fixed words. -/
def Obligations.SampleWordsDecode : Prop :=
  decode [0b00000000#8] = .ok (.nop, 1) ∧
  decode [0b01110110#8] = .ok (.halt, 1) ∧
  decode [0b00111110#8, 0b01000010#8] = .ok (.ldAD8 0x42#8, 2) ∧
  decode [0b11000011#8, 0b00110100#8, 0b00010010#8] = .ok (.jpA16 0x1234#16, 3) ∧
  decode [0b01111000#8] = .ok (.ldAB, 1) ∧
  decode [0b10011111#8] = .ok (.sbcAA, 1) ∧
  decode [0b11001011#8, 0b11011101#8] = .ok (.set3L, 2)

/-- O4 (derived; 30_encoding.md R111, 30_encoding.md R101, 10_state.md R32, 47_extended.md R300). If DECODE answers
the same Instruction value at two places, of one ROM or of two, it consumed the same number of bytes at both and those
bytes are equal: no encoding is renamed to another's class, and no two entries of the primary or extended table are
the same value. The tables are the ones the spec supplies from general knowledge (decisions D6 and D7, log entry 10).
-/
def Obligations.EachClassValueHasOneEncoding : Prop :=
  ∀ (s t : State) (off off' : Nat) (v : Instruction) (n m : Nat),
    DecodeAnswers s off (.decodeOk v n) → DecodeAnswers t off' (.decodeOk v m) →
      n = m ∧ ∀ k, k < n → s.rom.read (off + k) = t.rom.read (off' + k)

/-- O5 (derived; 42_decoder_top.md R170, 48_stream_cursor.md R323, 48_stream_cursor.md R326, 00_scope.md R7). Let the
bytes standing at an offset (all of them up to the longest encoding, three) decode to row i. Then a step that serves
DECODE(off) is exec of i with that operation being served and the request off the queue; so is a step that serves NEXT
or NEXT_E on a constructed, positioned cursor when the offset is POS. The request queue is the model's own convention
(log entry 2). -/
def Obligations.StepRunsTheDecodedRow : Prop :=
  ∀ (s : State) (off : Nat) (bytes : List Byte) (i : Instr) (n : Nat) (rest : List Request),
    Holds s off bytes → bytes.length = min 3 (s.len - off) → decode bytes = .ok (i, n) →
      (s.requests = .decode off :: rest → step s = exec i { s with requests := rest, op := .direct off }) ∧
      (s.constructed = true → s.st = .positioned → s.pos = off →
        (s.requests = .next :: rest → step s = exec i { s with requests := rest, op := .next }) ∧
        (s.requests = .nextE :: rest → step s = exec i { s with requests := rest, op := .nextE }))

/-- O6 (derived; 42_decoder_top.md R171, 42_decoder_top.md R176, 48_stream_cursor.md R325, 48_stream_cursor.md R326).
When the bytes standing at the offset select no row (there is none, or an operand byte is missing), a step that serves
DECODE(off), or NEXT or NEXT_E at POS = off on a constructed positioned cursor, takes OutOfData: DECODE only answers;
the cursor becomes exhausted with that cause, POS staying (decisions D25, D27 of the spec). The request queue is the
model's own convention (log entry 2). -/
def Obligations.StepOnUndecodableBytesFails : Prop :=
  ∀ (s : State) (off : Nat) (bytes : List Byte) (e : Error) (rest : List Request),
    Holds s off bytes → bytes.length = min 3 (s.len - off) → decode bytes = .error e →
      e = .outOfData ∧
      (s.requests = .decode off :: rest →
        step s = .next { s with requests := rest, op := .direct off, delivered := .decodeErr e :: s.delivered }) ∧
      (s.constructed = true → s.st = .positioned → s.pos = off →
        (s.requests = .next :: rest →
          step s = .next { s with requests := rest, op := .next, st := .exhausted, cause := e, delivered := .nextNone :: s.delivered }) ∧
        (s.requests = .nextE :: rest →
          step s = .next { s with requests := rest, op := .nextE, st := .exhausted, cause := e, delivered := .ended e :: s.delivered }))

/-- O7 (derived; 42_decoder_top.md R170, 42_decoder_top.md R171, 92_eei_decisions.md D6, 92_eei_decisions.md D7,
92_eei_decisions.md D36). For every ROM, LEN and offset, serving DECODE(off) answers Ok(i, n) or Err(e) exactly as the
reader-by-reader pseudocode of the rule (State.decodeRef, over the class tables), in particular with n in 1, 2, 3 and
e one of OutOfData, UndefinedOpcode(b0), and writes no state. The machine itself runs the field decoder and one
dispatch arm per row: the two are written apart (log entry 11). The class tables the pseudocode looks up are the ones
the spec supplies from general knowledge (decisions D6 and D7 of the spec, log entry 10); that an offset beyond LEN
fails is its decision D36. -/
def Obligations.DecodeAgreesWithThePseudocode : Prop :=
  ∀ (s : State) (off : Nat),
    (∀ v n, s.decodeRef off = .ok (v, n) → DecodeAnswers s off (.decodeOk v n) ∧ 1 ≤ n ∧ n ≤ 3) ∧
    ∀ e, s.decodeRef off = .error e → DecodeAnswers s off (.decodeErr e) ∧
      (e = .outOfData ∨ e = .undefinedOpcode (s.rom.read off))

/-- O8 (derived; 42_decoder_top.md R170, 42_decoder_top.md R177, 10_state.md R32, 48_stream_cursor.md R324). For every
well-formed row of the opcode table except the escape row and the eleven undefined bytes (they have their own
statements), there is one class v such that the pseudocode of DECODE returns v and the encoding's length wherever the
encoding stands in a ROM, and exec of the row answers a next state in EVERY state: DECODE returns Ok(v, length) and
changes nothing; NEXT and NEXT_E advance POS by the length and yield v; every other field is unchanged. -/
def Obligations.EveryRowCompletesWithItsReferenceClass : Prop :=
  ∀ i : Instr, i.wf = true → i ≠ .prefixCb → (∀ b, i ≠ .undefined b) →
    ∃ v, (∀ t off, Holds t off (encode i) → t.decodeRef off = .ok (v, (encode i).length)) ∧
      ∀ s, exec i s = .next (afterDecode s v (encode i).length)

/-- O9 (derived; 42_decoder_top.md R173, 30_encoding.md R97, 48_stream_cursor.md R323, 48_stream_cursor.md R326,
60_exceptions.md R361, 92_eei_decisions.md D7, 92_eei_decisions.md D25, 92_eei_decisions.md D27). Where ROM[off] =
0xCB and one more byte exists, DECODE(off) = Ok(EXT[ROM[off+1]], 2), whatever that byte is; as the last byte of the
buffer it gives Err(OutOfData). The escape byte selects the extended row of the index when a byte follows and its own
row PREFIX_CB only when none does; no class stands for it: exec of PREFIX_CB reads the byte after the opcode byte (at
the offset the operation being served decodes), and in every state completes with that byte's entry, or takes
OutOfData when there is none. A second 0xCB is an index like any other: SET 1,E. That 0xCB selects the row PREFIX_CB
only where no byte follows, and what exec of that row does, is the model's own reading (log entry 7); the layout of
the extended table is the one the spec supplies from general knowledge (decision D7); that the cursor keeps POS and
records CAUSE on a failure is its decisions D25 and D27. -/
def Obligations.EscapeSelectsTheExtendedTable : Prop :=
  (∀ (s : State) (off : Nat), off < s.len → s.rom.read off = 0xCB#8 →
    (off + 1 < s.len → DecodeAnswers s off (.decodeOk (extendedEntry (s.rom.read (off + 1))) 2)) ∧
    (s.len = off + 1 → DecodeAnswers s off (.decodeErr .outOfData))) ∧
  (∀ b1 rest, decode (0xCB#8 :: b1 :: rest) = .ok (extendedRow b1, 2)) ∧ decode [0xCB#8] = .ok (.prefixCb, 1) ∧
  (∀ s : State,
    (s.fetchOffset + 1 < s.len →
      exec .prefixCb s = .next (afterDecode s (extendedEntry (s.rom.read (s.fetchOffset + 1))) 2)) ∧
    (s.len ≤ s.fetchOffset + 1 → exec .prefixCb s = .next (afterFailure s .outOfData))) ∧
  extendedEntry 0xCB#8 = .set 1 .e

/-- O10 (derived; 42_decoder_top.md R175, 30_encoding.md R100, 48_stream_cursor.md R325, 48_stream_cursor.md R326,
60_exceptions.md R360, 60_exceptions.md R361, 92_eei_decisions.md D25, 92_eei_decisions.md D27). For each of the
eleven bytes: the byte selects the row UNDEFINED whatever follows; exec of that row takes the failure
UndefinedOpcode(b) in every state (DECODE answers Err and changes nothing, the cursor becomes exhausted with that
cause and POS stays); and DECODE at the byte answers Err(UndefinedOpcode(b)) also when it is the last byte of the
buffer. That the eleven bytes are one row with the byte as its argument is the model's own reading (log entry 7); that
the cursor keeps POS and records CAUSE is R325 with decisions D25 and D27 of the spec. -/
def Obligations.UndefinedBytesFail : Prop :=
  ∀ b ∈ ([0xD3#8, 0xDB#8, 0xDD#8, 0xE3#8, 0xE4#8, 0xEB#8, 0xEC#8, 0xED#8, 0xF4#8, 0xFC#8, 0xFD#8] : List Byte),
    (∀ rest, decode (b :: rest) = .ok (.undefined b, 1)) ∧
    (∀ s, exec (.undefined b) s = .next (afterFailure s (.undefinedOpcode b))) ∧
    ∀ (s : State) (off : Nat), off < s.len → s.rom.read off = b → DecodeAnswers s off (.decodeErr (.undefinedOpcode b))

/-- O11 (derived; 42_decoder_top.md R176, 42_decoder_top.md R171, 30_encoding.md R91, 30_encoding.md R92,
92_eei_decisions.md D6, 92_eei_decisions.md D36). For a first byte that is not one of the eleven undefined ones, with
L = 2 for 0xCB and the 25 one-operand bytes, 3 for the 17 two-operand bytes and 1 for the other 202: if L bytes lie
below LEN, DECODE succeeds and consumes L; if the opcode byte exists but fewer than L bytes remain, it fails with
OutOfData. An offset at or beyond LEN fails with OutOfData (for an offset beyond LEN by decision D36 of the spec).
Which byte has which operand width is R91, from the opcode map the spec supplies from general knowledge (decision D6,
log entry 10). -/
def Obligations.FirstByteFixesLengthAndTruncation : Prop :=
  ∀ (s : State) (off : Nat),
    (s.len ≤ off → DecodeAnswers s off (.decodeErr .outOfData)) ∧
    (off < s.len → s.rom.read off ∉ undefinedBytes →
      (off + encodingLength (s.rom.read off) ≤ s.len →
        ∃ v, DecodeAnswers s off (.decodeOk v (encodingLength (s.rom.read off)))) ∧
      (s.len < off + encodingLength (s.rom.read off) → DecodeAnswers s off (.decodeErr .outOfData)))

/-- O12 (derived; 42_decoder_top.md R172, 42_decoder_top.md R174, 42_decoder_top.md R177, 42_decoder_top.md R180,
20_memory.md R58). If DECODE(off) answers Ok(v, n), then off + n <= LEN, and any place of any ROM (at any offset, of
whatever parity) where the same n bytes stand below LEN answers the same Ok(v, n), whatever the bytes after them, the
cursor and the history are. -/
def Obligations.OnlyTheConsumedBytesMatter : Prop :=
  ∀ (s t : State) (off off' : Nat) (v : Instruction) (n : Nat), DecodeAnswers s off (.decodeOk v n) →
    off + n ≤ s.len ∧
    (off' + n ≤ t.len → (∀ k, k < n → t.rom.read (off' + k) = s.rom.read (off + k)) →
      DecodeAnswers t off' (.decodeOk v n))

/-- O13 (derived; 43_control_misc.md R190, 43_control_misc.md R191, 43_control_misc.md R192, 43_control_misc.md R193,
43_control_misc.md R194, 43_control_misc.md R195, 43_control_misc.md R196, 43_control_misc.md R197, 43_control_misc.md
R198, 43_control_misc.md R199, 92_eei_decisions.md D6, 92_eei_decisions.md D14). Each of the nine bytes selects its
row whatever follows; executing the row completes in every state with the form's class and one byte consumed, nothing
else changing; DECODE at the byte returns that class and 1, as the last byte of a buffer too. The opcode byte values
are the ones the spec supplies from general knowledge (spec/92_eei_decisions.md D6); that STOP takes one byte is its
decision D14. -/
def Obligations.ControlForms : Prop :=
  Form .nop [0x00#8] .nop ∧
  Form .stop [0x10#8] .stop ∧
  Form .halt [0x76#8] .halt ∧
  Form .di [0xF3#8] .di ∧
  Form .ei [0xFB#8] .ei ∧
  Form .ret [0xC9#8] .ret ∧
  Form .reti [0xD9#8] .reti ∧
  Form .jpHl [0xE9#8] .jpHl ∧
  Form .ldSpHl [0xF9#8] .ldSpHl

/-- O14 (derived; 43_control_misc.md R190, 43_control_misc.md R200, 43_control_misc.md R201, 43_control_misc.md R202,
43_control_misc.md R203, 43_control_misc.md R204, 43_control_misc.md R205, 43_control_misc.md R206, 43_control_misc.md
R207, 92_eei_decisions.md D6). Each of the eight bytes selects its row whatever follows; executing the row completes
in every state with the form's class and one byte consumed, no flag or register changing; DECODE at the byte returns
that class and 1. The opcode byte values are the ones the spec supplies from general knowledge
(spec/92_eei_decisions.md D6). -/
def Obligations.AccumulatorForms : Prop :=
  Form .rlca [0x07#8] .rlca ∧
  Form .rrca [0x0F#8] .rrca ∧
  Form .rla [0x17#8] .rla ∧
  Form .rra [0x1F#8] .rra ∧
  Form .daa [0x27#8] .daa ∧
  Form .cpl [0x2F#8] .cpl ∧
  Form .scf [0x37#8] .scf ∧
  Form .ccf [0x3F#8] .ccf

/-- O15 (derived; 44_loads.md R220, 44_loads.md R221, 44_loads.md R222, 10_state.md R21, 10_state.md R22,
30_encoding.md R95, 92_eei_decisions.md D6, 92_eei_decisions.md D10). For every register code y and byte d8, and every
code p and pair of bytes: the bytes select the row, the row completes in every state with LdR8Imm{R8(y), d8} and 2, or
LdR16Imm{rr(p), le16(b1, b2)} and 3, DECODE returns the same, and a form cut off by the end of the buffer fails with
OutOfData. The opcode byte values are the ones the spec supplies from general knowledge (spec/92_eei_decisions.md D6),
but for 0x3E. -/
def Obligations.ImmediateLoadForms : Prop :=
  (∀ (y : BitVec 3) (d8 : Byte),
    Form (ldImmRow d8 (memberR8 y)) [0b00#2 ++ y ++ 0b110#3, d8] (.ldR8Imm (memberR8 y) d8) ∧
    CutOffFails [0b00#2 ++ y ++ 0b110#3, d8]) ∧
  ∀ (p : BitVec 2) (b1 b2 : Byte),
    Form (ldWordRow (b2 ++ b1) p) [0b00#2 ++ p ++ 0b0001#4, b1, b2] (.ldR16Imm (memberSp p) (b2 ++ b1)) ∧
    CutOffFails [0b00#2 ++ p ++ 0b0001#4, b1, b2]

/-- O16 (derived; 44_loads.md R223, 30_encoding.md R84, 10_state.md R21, 92_eei_decisions.md D8, 92_eei_decisions.md
D9). For all codes y, z, not both 6 (that byte is 0x76, HALT): the byte selects the move's row whatever follows, the
row completes in every state with LdR8R8{R8(y), R8(z)} and one byte consumed, DECODE returns the same; source equal to
destination is an ordinary move. The order of registers and destinations is the source's as decisions D8 and D9 of the
spec read it. -/
def Obligations.MoveForms : Prop :=
  ∀ y z : BitVec 3, ¬ (y = 6#3 ∧ z = 6#3) →
    Form (moveRow (memberR8 y) (memberR8 z)) [0b01#2 ++ y ++ z] (.ldR8R8 (memberR8 y) (memberR8 z))

/-- O17 (derived; 44_loads.md R220, 44_loads.md R224, 44_loads.md R225, 44_loads.md R226, 44_loads.md R227,
44_loads.md R228, 44_loads.md R229, 92_eei_decisions.md D6). LD [BC],A, LD [DE],A, LD A,[BC], LD A,[DE], LD [HL+],A,
LD [HL-],A, LD A,[HL+], LD A,[HL-]: the byte selects the row, the row completes in every state with its class and one
byte consumed, DECODE returns the same. The opcode byte values are the ones the spec supplies from general knowledge
(spec/92_eei_decisions.md D6). -/
def Obligations.PointerForms : Prop :=
  Form .ldMemBcA [0x02#8] (.stAInd .bc) ∧ Form .ldMemDeA [0x12#8] (.stAInd .de) ∧
  Form .ldAMemBc [0x0A#8] (.ldAInd .bc) ∧ Form .ldAMemDe [0x1A#8] (.ldAInd .de) ∧
  Form .ldMemHlIncA [0x22#8] .stAHli ∧ Form .ldMemHlDecA [0x32#8] .stAHld ∧
  Form .ldAMemHlInc [0x2A#8] .ldAHli ∧ Form .ldAMemHlDec [0x3A#8] .ldAHld

/-- O18 (derived; 44_loads.md R220, 44_loads.md R230, 44_loads.md R231, 44_loads.md R232, 44_loads.md R233,
44_loads.md R234, 44_loads.md R235, 44_loads.md R236, 44_loads.md R237, 92_eei_decisions.md D6, 92_eei_decisions.md
D13). For every operand: the bytes select the row, the row completes in every state with its class (a8 unsigned as
read; a16 = second byte over first; e8 the two's-complement reading) and 1, 2 or 3 bytes consumed, DECODE returns the
same, and a form cut off by the end of the buffer fails with OutOfData. The opcode byte values are the ones the spec
supplies from general knowledge (spec/92_eei_decisions.md D6); a8 raw and e8 signed are its decision D13. -/
def Obligations.HighPageAndAbsoluteForms : Prop :=
  (∀ b1 : Byte,
    Form (.ldhMemA8A b1) [0xE0#8, b1] (.stAHigh b1) ∧ CutOffFails [0xE0#8, b1] ∧
    Form (.ldhAMemA8 b1) [0xF0#8, b1] (.ldAHigh b1) ∧ CutOffFails [0xF0#8, b1] ∧
    Form (.ldHlSpE8 b1.toInt) [0xF8#8, b1] (.ldHlSpOff b1.toInt) ∧ CutOffFails [0xF8#8, b1]) ∧
  Form .ldhMemCA [0xE2#8] .stAHighC ∧ Form .ldhAMemC [0xF2#8] .ldAHighC ∧
  ∀ b1 b2 : Byte,
    Form (.ldMemA16A (b2 ++ b1)) [0xEA#8, b1, b2] (.stAAbs (b2 ++ b1)) ∧ CutOffFails [0xEA#8, b1, b2] ∧
    Form (.ldAMemA16 (b2 ++ b1)) [0xFA#8, b1, b2] (.ldAAbs (b2 ++ b1)) ∧ CutOffFails [0xFA#8, b1, b2] ∧
    Form (.ldMemA16Sp (b2 ++ b1)) [0x08#8, b1, b2] (.stSpAbs (b2 ++ b1)) ∧ CutOffFails [0x08#8, b1, b2]

/-- O19 (derived; 44_loads.md R220, 44_loads.md R238, 44_loads.md R239, 10_state.md R22, 92_eei_decisions.md D6,
92_eei_decisions.md D10). For every code p: the byte selects the row, the row completes in every state with Push or
Pop of the selector (BC, DE, HL, AF) and one byte consumed, DECODE returns the same. The opcode byte values are the
ones the spec supplies from general knowledge (spec/92_eei_decisions.md D6); that code 3 is AF here is its decision
D10. -/
def Obligations.PushPopForms : Prop :=
  ∀ p : BitVec 2,
    Form (pushRow p) [0b11#2 ++ p ++ 0b0101#4] (.push (memberAf p)) ∧
    Form (popRow p) [0b11#2 ++ p ++ 0b0001#4] (.pop (memberAf p))

/-- O20 (derived; 30_encoding.md R85, 45_alu.md R251, 45_alu.md R252, 45_alu.md R253, 45_alu.md R254, 45_alu.md R255,
45_alu.md R256, 45_alu.md R257, 45_alu.md R258, 10_state.md R21, 92_eei_decisions.md D8). For every operand code z and
each of the eight operations, numbered 0 to 7 as add, add-with-carry, subtract, subtract-with-carry, and, xor, or,
compare: the byte selects the row whatever follows, the row completes in every state with the operation's class on
R8(z) and one byte consumed (no flag written), DECODE returns the same. The order of registers is the source's as
decision D8 of the spec reads it. -/
def Obligations.AluRegisterForms : Prop :=
  ∀ z : BitVec 3,
    Form (aluRow .add (memberR8 z)) [0b10000#5 ++ z] (.add (memberR8 z)) ∧
    Form (aluRow .adc (memberR8 z)) [0b10001#5 ++ z] (.adc (memberR8 z)) ∧
    Form (aluRow .sub (memberR8 z)) [0b10010#5 ++ z] (.sub (memberR8 z)) ∧
    Form (aluRow .sbc (memberR8 z)) [0b10011#5 ++ z] (.sbc (memberR8 z)) ∧
    Form (aluRow .and (memberR8 z)) [0b10100#5 ++ z] (.and (memberR8 z)) ∧
    Form (aluRow .xor (memberR8 z)) [0b10101#5 ++ z] (.xor (memberR8 z)) ∧
    Form (aluRow .or (memberR8 z)) [0b10110#5 ++ z] (.or (memberR8 z)) ∧
    Form (aluRow .cp (memberR8 z)) [0b10111#5 ++ z] (.cp (memberR8 z))

/-- O21 (derived; 45_alu.md R250, 45_alu.md R259, 45_alu.md R260, 45_alu.md R261, 45_alu.md R262, 45_alu.md R263,
45_alu.md R264, 45_alu.md R265, 45_alu.md R266, 42_decoder_top.md R176, 92_eei_decisions.md D6). For every byte d8 and
each operation: the two bytes select the row, the row completes in every state with the operation's immediate class on
d8 and two bytes consumed (no flag written), DECODE returns the same, and the opcode byte alone at the end of the
buffer fails with OutOfData. The opcode byte values are the ones the spec supplies from general knowledge
(spec/92_eei_decisions.md D6). -/
def Obligations.AluImmediateForms : Prop :=
  ∀ d8 : Byte,
    Form (.addAD8 d8) [0b11000110#8, d8] (.addImm d8) ∧ CutOffFails [0b11000110#8, d8] ∧
    Form (.adcAD8 d8) [0b11001110#8, d8] (.adcImm d8) ∧ CutOffFails [0b11001110#8, d8] ∧
    Form (.subD8 d8) [0b11010110#8, d8] (.subImm d8) ∧ CutOffFails [0b11010110#8, d8] ∧
    Form (.sbcAD8 d8) [0b11011110#8, d8] (.sbcImm d8) ∧ CutOffFails [0b11011110#8, d8] ∧
    Form (.andD8 d8) [0b11100110#8, d8] (.andImm d8) ∧ CutOffFails [0b11100110#8, d8] ∧
    Form (.xorD8 d8) [0b11101110#8, d8] (.xorImm d8) ∧ CutOffFails [0b11101110#8, d8] ∧
    Form (.orD8 d8) [0b11110110#8, d8] (.orImm d8) ∧ CutOffFails [0b11110110#8, d8] ∧
    Form (.cpD8 d8) [0b11111110#8, d8] (.cpImm d8) ∧ CutOffFails [0b11111110#8, d8]

/-- O22 (derived; 45_alu.md R267, 45_alu.md R268, 45_alu.md R269, 45_alu.md R270, 10_state.md R21, 10_state.md R22,
92_eei_decisions.md D6, 92_eei_decisions.md D10). For every register code y and every code p: the byte selects the
row, the row completes in every state with its class on R8(y), or on BC, DE, HL, SP, and one byte consumed, DECODE
returns the same. The opcode byte values are the ones the spec supplies from general knowledge
(spec/92_eei_decisions.md D6). -/
def Obligations.IncrementDecrementForms : Prop :=
  (∀ y : BitVec 3,
    Form (incRow (memberR8 y)) [0b00#2 ++ y ++ 0b100#3] (.inc8 (memberR8 y)) ∧
    Form (decRow (memberR8 y)) [0b00#2 ++ y ++ 0b101#3] (.dec8 (memberR8 y))) ∧
  ∀ p : BitVec 2,
    Form (incWordRow p) [0b00#2 ++ p ++ 0b0011#4] (.inc16 (memberSp p)) ∧
    Form (decWordRow p) [0b00#2 ++ p ++ 0b1011#4] (.dec16 (memberSp p))

/-- O23 (derived; 45_alu.md R271, 45_alu.md R272, 10_state.md R22, 30_encoding.md R95, 92_eei_decisions.md D6,
92_eei_decisions.md D13). For every code p and every byte: the bytes select the row, the row completes in every state
with AddHl of BC, DE, HL, SP and 1, or AddSpOff of the two's-complement reading and 2, DECODE returns the same, and
0xE8 as the last byte of the buffer fails with OutOfData. The opcode byte values are the ones the spec supplies from
general knowledge (spec/92_eei_decisions.md D6); that e8 is signed here is its decision D13. -/
def Obligations.WideAddForms : Prop :=
  (∀ p : BitVec 2, Form (addHlRow p) [0b00#2 ++ p ++ 0b1001#4] (.addHl (memberSp p))) ∧
  ∀ b1 : Byte, Form (.addSpE8 b1.toInt) [0xE8#8, b1] (.addSpOff b1.toInt) ∧ CutOffFails [0xE8#8, b1]

/-- O24 (derived; 46_flow.md R280, 46_flow.md R281, 46_flow.md R282, 10_state.md R23, 30_encoding.md R95,
92_eei_decisions.md D6, 92_eei_decisions.md D11). For every condition code and offset byte: the two bytes select the
row, the row completes in every state with the class carrying the two's-complement reading of the byte and two bytes
consumed (POS advances by 2, never by the offset), DECODE returns the same, and the opcode byte alone at the end of
the buffer fails with OutOfData. The opcode byte values are the ones the spec supplies from general knowledge
(spec/92_eei_decisions.md D6); the condition codes are its decision D11. -/
def Obligations.RelativeJumpForms : Prop :=
  ∀ b1 : Byte,
    Form (.jrE8 b1.toInt) [0x18#8, b1] (.jr b1.toInt) ∧ CutOffFails [0x18#8, b1] ∧
    ∀ cc : BitVec 2,
      Form (jrCcRow b1.toInt (memberCc cc)) [0b001#3 ++ cc ++ 0b000#3, b1] (.jrCc (memberCc cc) b1.toInt) ∧
      CutOffFails [0b001#3 ++ cc ++ 0b000#3, b1]

/-- O25 (derived; 46_flow.md R280, 46_flow.md R283, 46_flow.md R284, 46_flow.md R285, 46_flow.md R286, 20_memory.md
R56, 92_eei_decisions.md D6, 92_eei_decisions.md D11). For every condition code and pair of bytes: the three bytes
(0xC3, 110 cc 010, 0xCD, 110 cc 100, then low, high) select the row, the row completes in every state with its class
carrying the address (second byte over first) and three bytes consumed, DECODE returns the same, and a form cut off
after one or two bytes fails with OutOfData. The opcode byte values are the ones the spec supplies from general
knowledge (spec/92_eei_decisions.md D6), but for 0xC3. -/
def Obligations.AbsoluteJumpAndCallForms : Prop :=
  ∀ b1 b2 : Byte,
    Form (.jpA16 (b2 ++ b1)) [0xC3#8, b1, b2] (.jp (b2 ++ b1)) ∧ CutOffFails [0xC3#8, b1, b2] ∧
    Form (.callA16 (b2 ++ b1)) [0xCD#8, b1, b2] (.call (b2 ++ b1)) ∧ CutOffFails [0xCD#8, b1, b2] ∧
    ∀ cc : BitVec 2,
      Form (jpCcRow (b2 ++ b1) (memberCc cc)) [0b110#3 ++ cc ++ 0b010#3, b1, b2] (.jpCc (memberCc cc) (b2 ++ b1)) ∧
      CutOffFails [0b110#3 ++ cc ++ 0b010#3, b1, b2] ∧
      Form (callCcRow (b2 ++ b1) (memberCc cc)) [0b110#3 ++ cc ++ 0b100#3, b1, b2] (.callCc (memberCc cc) (b2 ++ b1)) ∧
      CutOffFails [0b110#3 ++ cc ++ 0b100#3, b1, b2]

/-- O26 (derived; 46_flow.md R280, 46_flow.md R287, 46_flow.md R288, 10_state.md R23, 92_eei_decisions.md D6,
92_eei_decisions.md D11, 92_eei_decisions.md D12). For every condition code and every t: the byte selects the row, the
row completes in every state with RetCc of the condition, or Rst of 8t, and one byte consumed (the cursor goes on in
line), DECODE returns the same. The opcode byte values are the ones the spec supplies from general knowledge
(spec/92_eei_decisions.md D6); the eight targets are its decision D12. -/
def Obligations.ReturnAndResetForms : Prop :=
  (∀ cc : BitVec 2, Form (retCcRow (memberCc cc)) [0b110#3 ++ cc ++ 0b000#3] (.retCc (memberCc cc))) ∧
  ∀ t : BitVec 3, Form (rstRow t) [0b11#2 ++ t ++ 0b111#3] (.rst (BitVec.ofNat 8 (8 * t.toNat)))

/-- O27 (derived; 47_extended.md R300, 47_extended.md R301, 47_extended.md R302, 47_extended.md R303, 47_extended.md
R304, 47_extended.md R305, 47_extended.md R306, 47_extended.md R307, 47_extended.md R308, 30_encoding.md R97,
92_eei_decisions.md D7). For every operand code z and each operation: 0xCB and the index select the row whatever
follows, the row completes in every state with its class on R8(z) and two bytes consumed, DECODE returns the same, and
0xCB as the last byte of the buffer fails with OutOfData. The layout of the extended table is the one the spec
supplies from general knowledge (spec/92_eei_decisions.md D7). -/
def Obligations.RotateShiftForms : Prop :=
  ∀ z : BitVec 3,
    Form (rotRow .rlc (memberR8 z)) [0xCB#8, 0b00000#5 ++ z] (.rlc (memberR8 z)) ∧ CutOffFails [0xCB#8, 0b00000#5 ++ z] ∧
    Form (rotRow .rrc (memberR8 z)) [0xCB#8, 0b00001#5 ++ z] (.rrc (memberR8 z)) ∧ CutOffFails [0xCB#8, 0b00001#5 ++ z] ∧
    Form (rotRow .rl (memberR8 z)) [0xCB#8, 0b00010#5 ++ z] (.rl (memberR8 z)) ∧ CutOffFails [0xCB#8, 0b00010#5 ++ z] ∧
    Form (rotRow .rr (memberR8 z)) [0xCB#8, 0b00011#5 ++ z] (.rr (memberR8 z)) ∧ CutOffFails [0xCB#8, 0b00011#5 ++ z] ∧
    Form (rotRow .sla (memberR8 z)) [0xCB#8, 0b00100#5 ++ z] (.sla (memberR8 z)) ∧ CutOffFails [0xCB#8, 0b00100#5 ++ z] ∧
    Form (rotRow .sra (memberR8 z)) [0xCB#8, 0b00101#5 ++ z] (.sra (memberR8 z)) ∧ CutOffFails [0xCB#8, 0b00101#5 ++ z] ∧
    Form (rotRow .swap (memberR8 z)) [0xCB#8, 0b00110#5 ++ z] (.swap (memberR8 z)) ∧ CutOffFails [0xCB#8, 0b00110#5 ++ z] ∧
    Form (rotRow .srl (memberR8 z)) [0xCB#8, 0b00111#5 ++ z] (.srl (memberR8 z)) ∧ CutOffFails [0xCB#8, 0b00111#5 ++ z]

/-- O28 (derived; 47_extended.md R300, 47_extended.md R309, 47_extended.md R310, 47_extended.md R311, 30_encoding.md
R97, 92_eei_decisions.md D7). For every bit index b and operand code z: 0xCB and the index select the row whatever
follows, the row completes in every state with Bit, Res or Set of b and R8(z) and two bytes consumed, DECODE returns
the same, and 0xCB as the last byte of the buffer fails with OutOfData. The layout of the extended table is the one
the spec supplies from general knowledge (spec/92_eei_decisions.md D7). -/
def Obligations.BitForms : Prop :=
  ∀ b z : BitVec 3,
    Form (bitRow b.toFin (memberR8 z)) [0xCB#8, 0b01#2 ++ b ++ z] (.bit b.toFin (memberR8 z)) ∧ CutOffFails [0xCB#8, 0b01#2 ++ b ++ z] ∧
    Form (resRow b.toFin (memberR8 z)) [0xCB#8, 0b10#2 ++ b ++ z] (.res b.toFin (memberR8 z)) ∧ CutOffFails [0xCB#8, 0b10#2 ++ b ++ z] ∧
    Form (setRow b.toFin (memberR8 z)) [0xCB#8, 0b11#2 ++ b ++ z] (.set b.toFin (memberR8 z)) ∧ CutOffFails [0xCB#8, 0b11#2 ++ b ++ z]

/-- O29 (derived; 48_stream_cursor.md R321, 10_state.md R45, 70_reset_and_hazards.md R381, 92_eei_decisions.md D24).
In every state, constructed or not: for start <= LEN, INIT gives POS = start, ST = positioned, some CAUSE
(unspecified: a free value, log entry 3); for start > LEN it gives POS = LEN, ST = exhausted, CAUSE = OutOfData
(decision D24 of the spec). ROM, LEN and everything delivered are unchanged, and nothing is answered. That a fresh
free value counts one more draw is the model's own bookkeeping (log entry 3). -/
def Obligations.InitConstructsTheCursor : Prop :=
  ∀ (s : State) (start : Nat),
    (start ≤ s.len → ∃ c, serve (.init start) s =
      .next { s with pos := start, st := .positioned, cause := c, constructed := true, freeCount := s.freeCount + 1 }) ∧
    (s.len < start → serve (.init start) s =
      .next { s with pos := s.len, st := .exhausted, cause := .outOfData, constructed := true })

/-- O30 (derived; 48_stream_cursor.md R323, 48_stream_cursor.md R324, 48_stream_cursor.md R325, 48_stream_cursor.md
R328, 92_eei_decisions.md D25, 92_eei_decisions.md D27). On a constructed cursor: exhausted, NEXT answers None and
changes nothing; positioned, with DECODE(POS) = Ok(i, n) by the spec's pseudocode, POS advances by n and Some(i) is
answered; with DECODE(POS) = Err(e), ST becomes exhausted, CAUSE becomes e, POS stays (decisions D25 and D27 of the
spec) and None is answered. Every other field of the spec's state is unchanged. -/
def Obligations.NextDecodesAtThePosition : Prop :=
  ∀ s : State, s.constructed = true →
    (s.st = .exhausted → serve .next s = .next { s with op := .next, delivered := .nextNone :: s.delivered }) ∧
    (s.st = .positioned → ∀ i n, s.decodeRef s.pos = .ok (i, n) →
      serve .next s = .next { s with op := .next, pos := s.pos + n, delivered := .nextSome i :: s.delivered }) ∧
    (s.st = .positioned → ∀ e, s.decodeRef s.pos = .error e →
      serve .next s = .next { s with op := .next, st := .exhausted, cause := e, delivered := .nextNone :: s.delivered })

/-- O31 (derived; 48_stream_cursor.md R326, 60_exceptions.md R361, 60_exceptions.md R362, 92_eei_decisions.md D27).
For every state in which NEXT answers a next state t, NEXT_E answers the same state but for what it returns: Item(i)
exactly where NEXT returned Some(i), and End(CAUSE of t) exactly where NEXT returned None. NEXT_E is decision D27 of
the spec. -/
def Obligations.NextAndNextEDifferOnlyInTheAnswer : Prop :=
  ∀ (s t : State), serve .next s = .next t →
    ∃ r r', t.delivered = r :: s.delivered ∧
      serve .nextE s = .next { t with op := .nextE, delivered := r' :: s.delivered } ∧
      ((∃ i, r = .nextSome i ∧ r' = .item i) ∨ (r = .nextNone ∧ r' = .ended t.cause))

/-- O32 (derived; 60_exceptions.md R348, 48_stream_cursor.md R322, 10_state.md R45, 92_eei_decisions.md D30). In every
state a step either answers a next state or is refused with the one name cursorNeverConstructed, and the refusal
happens exactly when the oldest request is NEXT or NEXT_E and no INIT has constructed the cursor. No step faults. (The
refusal is decision D30 of the spec.) -/
def Obligations.MachineStopsOnlyBeforeAnyInit : Prop :=
  ∀ s : State,
    ((∃ t, step s = .next t) ∨ step s = .refused .cursorNeverConstructed) ∧
    (step s = .refused .cursorNeverConstructed ↔
      s.constructed = false ∧ ∃ rest, s.requests = .next :: rest ∨ s.requests = .nextE :: rest)

/-- O33 (derived; 60_exceptions.md R348, 48_stream_cursor.md R322, 10_state.md R40, 60_exceptions.md R347,
48_stream_cursor.md R321). From every state with a constructed cursor, k steps answer a next state for every k and
every queue of requests; the cursor stays constructed, ROM and LEN are unchanged, the first k requests are off the
queue, and every response delivered before is still there. The new responses are one for each request other than INIT
among those k, in the order of the requests; and where the state satisfies the invariant Inv (which says that the
CAUSE of an exhausted cursor is a decode failure), each is one of its own operation's outcomes, with a failure the
table of R347 gives it. The request queue is the model's own convention (log entry 2). -/
def Obligations.ConstructedMachineRunsForEver : Prop :=
  ∀ (k : Nat) (s : State), s.constructed = true →
    ∃ t : State, Sys2Proof.core.run k s = .next t ∧ t.constructed = true ∧ t.rom = s.rom ∧ t.len = s.len ∧
      t.requests = s.requests.drop k ∧ ∃ new, t.delivered = new ++ s.delivered ∧
        new.length = ((s.requests.take k).filter fun r => !isInit r).length ∧
        (Inv s → ∀ p ∈ ((s.requests.take k).filter fun r => !isInit r).zip new.reverse, mayAnswer p.1 p.2 = true)

/-- O34 (derived; 48_stream_cursor.md R328, 48_stream_cursor.md R326, 60_exceptions.md R347, 60_exceptions.md R365,
92_eei_decisions.md D27). From a constructed exhausted cursor, however many steps run on whatever requests other than
INIT: they answer next states, POS, ST and CAUSE are as before, and each of the first k requests gets one response, in
the order of the requests: every NEXT is answered None, every NEXT_E is answered End of that same CAUSE, and
PARSE_HEADER, VALIDATE and DECODE are answered outcomes of their own; so no Some and no Item is ever answered.
End(CAUSE) is decision D27 of the spec; the request queue, the runs and the idle steps are the model's own convention
(log entry 2). -/
def Obligations.ExhaustedIsTerminal : Prop :=
  ∀ (k : Nat) (s : State), s.constructed = true → s.st = .exhausted → (∀ r ∈ s.requests, isInit r = false) →
    ∃ t : State, Sys2Proof.core.run k s = .next t ∧ t.pos = s.pos ∧ t.st = .exhausted ∧ t.cause = s.cause ∧
      ∃ new, t.delivered = new ++ s.delivered ∧
        new.length = (s.requests.take k).length ∧
        ∀ p ∈ (s.requests.take k).zip new.reverse,
          (p.1 = .next → p.2 = .nextNone) ∧ (p.1 = .nextE → p.2 = .ended s.cause) ∧
          (isPure p.1 = true → mayAnswer p.1 p.2 = true)

/-- O35 (derived; 48_stream_cursor.md R330, 48_stream_cursor.md R331, 48_stream_cursor.md R327, 48_stream_cursor.md
R324, 48_stream_cursor.md R325, 48_stream_cursor.md R328, 92_eei_decisions.md D25, 92_eei_decisions.md D27). From a
constructed positioned cursor with POS <= LEN and k requests NEXT pending, for any k of at least LEN - POS + 1, k
steps lead to an exhausted cursor: they answered Some of each item of S(POS) (the recursion of R331 over the
pseudocode of DECODE) in order and then only None, at least once, one answer a step; and CAUSE is the error of the
first failing DECODE, at the final POS. So the items are at most LEN - POS. That CAUSE and the final POS are those of
the failing decode is R325 with decisions D25 and D27 of the spec. The request queue is the model's own convention
(log entry 2). -/
def Obligations.CursorYieldsTheSequenceAndEnds : Prop :=
  ∀ (s : State) (k : Nat), s.constructed = true → s.st = .positioned → s.pos ≤ s.len →
    s.requests = List.replicate k .next → s.len - s.pos + 1 ≤ k →
      ∃ (t : State) (m : Nat), Sys2Proof.core.run k s = .next t ∧ t.st = .exhausted ∧ 0 < m ∧
        t.delivered = List.replicate m .nextNone ++
          (s.itemsRef (s.len - s.pos) s.pos).reverse.map .nextSome ++ s.delivered ∧
        m + (s.itemsRef (s.len - s.pos) s.pos).length = k ∧
        (s.itemsRef (s.len - s.pos) s.pos).length ≤ s.len - s.pos ∧
        s.decodeRef t.pos = .error t.cause

/-- O36 (derived; 48_stream_cursor.md R329, 10_state.md R24, 10_state.md R25, 60_exceptions.md R365). If a step
answers t and its request is not INIT: POS is unchanged, or the cursor was and is positioned and POS advanced by 1, 2
or 3 to at most LEN; an exhausted cursor is exhausted still, with the same CAUSE and POS; and with no request pending
nothing changes at all. There is no seek and no way from exhausted to positioned but INIT. That an idle step changes
nothing is the model's own convention (log entry 2). -/
def Obligations.OnlyInitMovesBackOrRevives : Prop :=
  ∀ s t : State, (∀ r ∈ s.requests.head?, isInit r = false) → step s = .next t →
    (t.pos = s.pos ∨ (s.st = .positioned ∧ t.st = .positioned ∧ s.pos < t.pos ∧ t.pos ≤ s.pos + 3 ∧ t.pos ≤ s.len)) ∧
    (s.st = .exhausted → t.st = .exhausted ∧ t.pos = s.pos ∧ t.cause = s.cause) ∧
    (s.requests = [] → t = s)

/-- O37 (stated; R52). If a step answers a next state t, every byte reads as before at every offset (the whole memory
is the same) and LEN is the same, whatever the request was. -/
def Obligations.RomIsNeverWritten : Prop :=
  ∀ s t : State, step s = .next t → t.rom = s.rom ∧ t.len = s.len ∧ ∀ a, t.byteAt a = s.byteAt a

/-- O38 (stated; R383). For each of the three operations and any two states with the same ROM and LEN (whatever the
cursors, constructed or not, are): both answer a next state with one and the same response, and change nothing but
that response and the model's own note of which operation ran. So they may be used before, between and after cursor
operations, in any order, with the same outcomes, and asking twice answers twice the same. -/
def Obligations.PureOperationsTouchNoState : Prop :=
  ∀ (r : Request) (s t : State), isPure r = true → s.rom = t.rom → s.len = t.len →
    ∃ (a : Response) (o o' : DecodeOp),
      serve r s = .next { s with op := o, delivered := a :: s.delivered } ∧
      serve r t = .next { t with op := o', delivered := a :: t.delivered }

/-- O39 (derived; 60_exceptions.md R347, 10_state.md R40, 60_exceptions.md R355, 48_stream_cursor.md R321). If the
oldest request is r and the step answers t, the rest of the queue remains and: for INIT nothing is answered; for every
other operation exactly one response is added, of that operation's outcomes, and a failure in it is one the table of
R347 gives the operation. (For NEXT_E on an exhausted cursor this needs that CAUSE is a decode failure, part of the
invariant Inv.) That a step takes the oldest request off a queue, leaves the rest there and records the answer is the
model's own convention (log entry 2), not a rule of the spec. -/
def Obligations.EachOperationAnswersItsOwnOutcomes : Prop :=
  ∀ (s t : State) (r : Request) (rest : List Request), s.requests = r :: rest → Inv s → step s = .next t →
    t.requests = rest ∧
    if isInit r = true then t.delivered = s.delivered
    else ∃ a, t.delivered = a :: s.delivered ∧ mayAnswer r a = true

/-- O40 (derived; 48_stream_cursor.md R326, 60_exceptions.md R341, 60_exceptions.md R345, 48_stream_cursor.md R327).
If NEXT_E on a constructed, positioned cursor with POS <= LEN exhausts it, the error e it answers is CAUSE, POS has
not moved, and either e is UndefinedOpcode of the byte at POS, one of the eleven, or e is OutOfData and POS = LEN, or
the instruction whose first byte stands at POS needs more bytes than remain. -/
def Obligations.TerminalErrorTellsWhyDecodingStopped : Prop :=
  ∀ s t : State, s.constructed = true → s.st = .positioned → s.pos ≤ s.len →
    serve .nextE s = .next t → t.st = .exhausted →
      ∃ e, t.delivered = .ended e :: s.delivered ∧ t.cause = e ∧ t.pos = s.pos ∧
        ((s.pos < s.len ∧ s.rom.read s.pos ∈ undefinedBytes ∧ e = .undefinedOpcode (s.rom.read s.pos)) ∨
          (e = .outOfData ∧ (s.pos = s.len ∨
            (s.pos < s.len ∧ s.rom.read s.pos ∉ undefinedBytes ∧ s.len < s.pos + encodingLength (s.rom.read s.pos)))))

/-- O41 (derived; 10_state.md R27, 70_reset_and_hazards.md R381, 10_state.md R45). State.reset satisfies Inv; and so
does the unconstructed instance on any well-formed ROM that lists nothing at or beyond LEN. The buffer, the start
offset and CAUSE of State.reset are the model's choice (log entry 1). -/
def Obligations.InvariantHoldsAtReset : Prop :=
  Inv State.reset ∧
  ∀ rom len, Memory.wf rom = true → Memory.below rom len = true → Inv (State.unconstructed rom len)

/-- O42 (derived; 10_state.md R27, 10_state.md R26, 10_state.md R31, 10_state.md R32, 60_exceptions.md R347,
20_memory.md R52). For every state s with Inv s, if step s answers next t then Inv t. Inv says: the ROM's list of
bytes is in canonical form and lists nothing at or beyond LEN; a constructed cursor has POS <= LEN; the CAUSE of an
exhausted constructed cursor is OutOfData or UndefinedOpcode of one of the eleven bytes; every response delivered has
its shape: instructions obey the class table's payload restrictions, consumed counts are 1 to 3, headers have their
field lengths and valid title text, failures are those of the operation. -/
def Obligations.StepKeepsTheInvariant : Prop :=
  ∀ s t : State, Inv s → step s = .next t → Inv t

/-- O43 (derived; 70_reset_and_hazards.md R380, 70_reset_and_hazards.md R381, 10_state.md R45). Serving INIT(0) on an
instance with LEN = 0 before any INIT gives a state that agrees with State.reset in every field but CAUSE, which the
spec leaves unspecified, and the model's counter of free values: POS = 0, ST = positioned, constructed, nothing
delivered. The empty buffer and the start offset 0 are the model's choice (log entry 1). -/
def Obligations.ResetIsTheConstructionOfACursor : Prop :=
  ∃ c, serve (.init 0) (State.unconstructed [] 0) = .next { State.reset with cause := c, freeCount := 1 }

/-- O44 (stated; R55). For all naturals addr and n, without wrap: when addr + n <= LEN the result is the list of the n
bytes in increasing offset order (the empty list for n = 0); otherwise the read fails with OutOfData. The result
depends on no byte at or beyond LEN: two instances with the same LEN that agree on every offset below LEN read alike.
-/
def Obligations.MemReadReturnsTheBytesOrOutOfData : Prop :=
  ∀ (s : State) (addr n : Nat),
    (addr + n ≤ s.len → s.memRead addr n = .ok (romBytes s addr n)) ∧
    (s.len < addr + n → s.memRead addr n = .error .outOfData) ∧
    ∀ t : State, t.len = s.len → (∀ a, a < s.len → t.byteAt a = s.byteAt a) → t.memRead addr n = s.memRead addr n

/-- O45 (derived; 40_field_readers.md R120, 40_field_readers.md R121, 40_field_readers.md R122, 40_field_readers.md
R123, 40_field_readers.md R124, 40_field_readers.md R125, 92_eei_decisions.md D15). For every position p: read_u8
gives the byte and p + 1; read_u16 gives the little-endian (second byte over first) or big-endian (first over second)
word and p + 2; read_bytes gives the n bytes and p + n; skip gives p + n; each fails with OutOfData exactly when fewer
bytes remain. read_text fails with OutOfData when bytes are missing, whatever the bytes are, and with InvalidText when
they are there and some byte is 0x80 or above (decision D15 of the spec, log entry 10); else it gives them and p + n.
-/
def Obligations.ReadersReturnValueAndAdvancedPosition : Prop :=
  ∀ (s : State) (p n : Nat),
    (p < s.len → s.readU8 p = .ok (s.rom.read p, p + 1)) ∧ (s.len ≤ p → s.readU8 p = .error .outOfData) ∧
    (p + 2 ≤ s.len → s.readU16 p .le = .ok (s.rom.read (p + 1) ++ s.rom.read p, p + 2) ∧
      s.readU16 p .be = .ok (s.rom.read p ++ s.rom.read (p + 1), p + 2)) ∧
    (s.len < p + 2 → ∀ o, s.readU16 p o = .error .outOfData) ∧
    (p + n ≤ s.len → s.readBytes p n = .ok (romBytes s p n, p + n) ∧ s.skip p n = .ok (p + n) ∧
      ((∀ b ∈ romBytes s p n, b.toNat < 0x80) → s.readText p n = .ok (romBytes s p n, p + n)) ∧
      ((∃ b ∈ romBytes s p n, 0x80 ≤ b.toNat) → s.readText p n = .error .invalidText)) ∧
    (s.len < p + n → s.readBytes p n = .error .outOfData ∧ s.skip p n = .error .outOfData ∧
      s.readText p n = .error .outOfData)

/-- O46 (derived; 20_memory.md R50, 00_scope.md R9, 70_reset_and_hazards.md R385). For every list of bytes, the
instance on that buffer has LEN its length, its memory in canonical form with nothing listed at or beyond LEN, the
k-th byte at offset k, and no byte at offset LEN or above. That an unlisted offset below LEN reads as 0x00 is a matter
of representation (log entry 5) and cannot be seen here. -/
def Obligations.HostBufferReadsBack : Prop :=
  ∀ (s : State) (bytes : List Byte),
    (s.withRom bytes).len = bytes.length ∧ Memory.wf (s.withRom bytes).rom = true ∧
    Memory.below (s.withRom bytes).rom bytes.length = true ∧
    ∀ a, (s.withRom bytes).byteAt a = bytes[a]?

/-- O47 (derived; 45_alu.md R273, 20_memory.md R56, 30_encoding.md R95). For all bytes le16(b0, b1) = b0 + 256 b1 and
be16(b0, b1) = 256 b0 + b1 as natural numbers; sint8(b) is b below 128 and b - 256 otherwise, and every integer from
-128 to 127 is the reading of exactly one byte. -/
def Obligations.OperandArithmeticIsExact : Prop :=
  (∀ b0 b1 : Byte, (le16 b0 b1).toNat = b0.toNat + 256 * b1.toNat ∧ (be16 b0 b1).toNat = 256 * b0.toNat + b1.toNat) ∧
  (∀ b : Byte, (b.toNat < 128 → sint8 b = b.toNat) ∧ (128 ≤ b.toNat → sint8 b = (b.toNat : Int) - 256)) ∧
  ∀ e : Int, -128 ≤ e → e ≤ 127 → ∃ b, sint8 b = e ∧ ∀ b', sint8 b' = e → b' = b

/-- O48 (derived; 41_header.md R140, 41_header.md R141, 41_header.md R143, 92_eei_decisions.md D15,
92_eei_decisions.md D16, 92_eei_decisions.md D19, 92_eei_decisions.md D20, 92_eei_decisions.md D21). In every state,
PARSE_HEADER answers the outcome the table of R141 decides: OutOfData below 0x143 bytes, InvalidText for a bad title,
OutOfData below 0x149, UnknownRomSize, OutOfData below 0x14A, UnknownRamSize, OutOfData below 0x150, else Ok with the
record of R140 read from the fixed offsets, the checksum big-endian, the flags true exactly for 0x80, 0x03, 0x00.
Nothing of a record is delivered with a failure and no state changes. Title validity (every byte below 0x80), the
sense of the region flag and the order for short buffers are decisions D15, D16, D21 of the spec; the bank counts of
the two size tables are its decisions D19 and D20 (log entry 10). -/
def Obligations.ParseHeaderOutcome : Prop :=
  ∀ s : State, serve .parseHeader s = .next { s with delivered := headerOutcome s :: s.delivered }

/-- O49 (derived; 41_header.md R131, 41_header.md R133, 92_eei_decisions.md D19, 92_eei_decisions.md D20). If
PARSE_HEADER answers Ok(h): with n the ROM-size byte, h.rom_banks is 2^(n+1) when n <= 8 and 72, 80, 96 for 0x52,
0x53, 0x54, and n is one of those twelve; with m the RAM-size byte, m <= 5 and (h.ram_banks, h.ram_bank_size) is
(0,0), (1,2048), (1,8192), (4,8192), (16,8192), (8,8192). The counts are the ones the spec supplies from general
knowledge (decisions D19, D20). -/
def Obligations.BankCountsOfAParsedHeader : Prop :=
  ∀ (s : State) (h : HeaderRecord), serve .parseHeader s = .next { s with delivered := .headerOk h :: s.delivered } →
    let n := (s.rom.read 0x148).toNat
    let m := (s.rom.read 0x149).toNat
    ((n ≤ 8 ∧ h.romBanks = 2 ^ (n + 1)) ∨ (n = 0x52 ∧ h.romBanks = 72) ∨ (n = 0x53 ∧ h.romBanks = 80) ∨
      (n = 0x54 ∧ h.romBanks = 96)) ∧
    ([(0, 0), (1, 2048), (1, 8192), (4, 8192), (16, 8192), (8, 8192)] : List (Nat × Nat))[m]? =
      some (h.ramBanks, h.ramBankSize)

/-- O50 (derived; 41_header.md R142, 20_memory.md R51, 20_memory.md R63). Two states whose buffers have the same
length up to 0x150 and agree on every existing byte from 0x104 to 0x14F get the same answer from PARSE_HEADER,
whatever the other bytes and the cursors are. -/
def Obligations.HeaderReadsOnlyItsOwnBytes : Prop :=
  ∀ s t : State, min s.len 0x150 = min t.len 0x150 →
    (∀ a, 0x104 ≤ a → a < 0x150 → a < s.len → s.rom.read a = t.rom.read a) →
      ∃ r, serve .parseHeader s = .next { s with delivered := r :: s.delivered } ∧
        serve .parseHeader t = .next { t with delivered := r :: t.delivered }

/-- O51 (derived; 41_header.md R135, 10_state.md R35, 92_eei_decisions.md D18). A parsed record keeps the raw
cartridge-type byte, any byte at all. Its name is a function of that byte alone, defined on all 256: each of the 25
codes is the name of some byte, every byte has one of them or Other of itself, and two cartridge types are equal
exactly when their raw bytes are. Which bytes have which name is a free value (log entry 4): this holds for every such
assignment. That an assignment which misses a name is completed to 25 is the model's choice too (log entry 4); that
the 25 names are an open parameter is decision D18 of the spec, and when two types are equal is R35. -/
def Obligations.CartridgeTypeIsTotalWithTwentyFiveNames : Prop :=
  (∀ b : Byte, (cartTypeOf b).raw = b) ∧
  (∀ k : Fin 25, ∃ b : Byte, cartTypeName (cartTypeOf b) = .named k) ∧
  (∀ b : Byte, cartTypeName (cartTypeOf b) = .other b ∨ ∃ k, cartTypeName (cartTypeOf b) = .named k) ∧
  (∀ b b' : Byte, cartTypeOf b = cartTypeOf b' ↔ b = b') ∧
  ∀ (s : State) (h : HeaderRecord), serve .parseHeader s = .next { s with delivered := .headerOk h :: s.delivered } →
    h.cartType = cartTypeOf (s.rom.read 0x147)

/-- O52 (stated; R150, R151, R152, R153). For every record and state: if the fingerprint bytes do not meet the four
constants at once (exact sum 5446; every bit set somewhere, OR 255; clear somewhere, AND 0; bit parities those of 134,
XOR 134), the answer is Err(LogoMismatch), whatever else fails; if they do and the super flag is set and the old
licensee byte is not 0x33, Err(LicenseeMismatch); else Ok. No state changes and no ROM byte is read. -/
def Obligations.ValidateVerdict : Prop :=
  ∀ (h : HeaderRecord) (s : State),
    (¬ LogoRule h.fingerprint →
      serve (.validate h) s = .next { s with delivered := .invalid .logoMismatch :: s.delivered }) ∧
    (LogoRule h.fingerprint → h.super = true → h.oldLicensee ≠ 0x33#8 →
      serve (.validate h) s = .next { s with delivered := .invalid .licenseeMismatch :: s.delivered }) ∧
    (LogoRule h.fingerprint → (h.super = false ∨ h.oldLicensee = 0x33#8) →
      serve (.validate h) s = .next { s with delivered := .valid :: s.delivered })

/-- O53 (derived; 41_header.md R151, 70_reset_and_hazards.md R396, 45_alu.md R273). VALIDATE answers the same for a
record and for one whose fingerprint is a permutation of the first's; and the exact sum of any 48 bytes is at most
12240, reached by 48 bytes 0xFF, so that it fits 14 bits. -/
def Obligations.ValidatorIsAProxy : Prop :=
  (∀ (h : HeaderRecord) (bs : List Byte), bs.Perm h.fingerprint →
    validate { h with fingerprint := bs } = validate h) ∧
  (∀ bs : List Byte, bs.length = 48 → byteSum bs ≤ 12240) ∧ byteSum (List.replicate 48 0xFF#8) = 12240
end

