-- ==== Sys2Proof/Laws/State.lean ====
section
/-! SUPPORT. One lemma per field per update of the state, true by `rfl`, so that no proof unfolds a record update; and for
the two operations every meaning ends in, `yield` and `raise`, the fields they leave alone and their three cases. -/

namespace Sys2Proof.Machine

open Sys2Proof

@[simp] theorem State.respond_rom (s : State) (r : Response) : (s.respond r).rom = s.rom := rfl
@[simp] theorem State.respond_len (s : State) (r : Response) : (s.respond r).len = s.len := rfl
@[simp] theorem State.respond_pos (s : State) (r : Response) : (s.respond r).pos = s.pos := rfl
@[simp] theorem State.respond_st (s : State) (r : Response) : (s.respond r).st = s.st := rfl
@[simp] theorem State.respond_cause (s : State) (r : Response) : (s.respond r).cause = s.cause := rfl
@[simp] theorem State.respond_constructed (s : State) (r : Response) : (s.respond r).constructed = s.constructed := rfl
@[simp] theorem State.respond_freeCount (s : State) (r : Response) : (s.respond r).freeCount = s.freeCount := rfl
@[simp] theorem State.respond_op (s : State) (r : Response) : (s.respond r).op = s.op := rfl
@[simp] theorem State.respond_requests (s : State) (r : Response) : (s.respond r).requests = s.requests := rfl
@[simp] theorem State.respond_delivered (s : State) (r : Response) : (s.respond r).delivered = r :: s.delivered := rfl

@[simp] theorem State.advance_rom (s : State) (n : Nat) : (s.advance n).rom = s.rom := rfl
@[simp] theorem State.advance_len (s : State) (n : Nat) : (s.advance n).len = s.len := rfl
@[simp] theorem State.advance_pos (s : State) (n : Nat) : (s.advance n).pos = s.pos + n := rfl
@[simp] theorem State.advance_st (s : State) (n : Nat) : (s.advance n).st = s.st := rfl
@[simp] theorem State.advance_cause (s : State) (n : Nat) : (s.advance n).cause = s.cause := rfl
@[simp] theorem State.advance_constructed (s : State) (n : Nat) : (s.advance n).constructed = s.constructed := rfl
@[simp] theorem State.advance_freeCount (s : State) (n : Nat) : (s.advance n).freeCount = s.freeCount := rfl
@[simp] theorem State.advance_op (s : State) (n : Nat) : (s.advance n).op = s.op := rfl
@[simp] theorem State.advance_requests (s : State) (n : Nat) : (s.advance n).requests = s.requests := rfl
@[simp] theorem State.advance_delivered (s : State) (n : Nat) : (s.advance n).delivered = s.delivered := rfl

@[simp] theorem State.setExhausted_rom (s : State) (e : Error) : (s.setExhausted e).rom = s.rom := rfl
@[simp] theorem State.setExhausted_len (s : State) (e : Error) : (s.setExhausted e).len = s.len := rfl
@[simp] theorem State.setExhausted_pos (s : State) (e : Error) : (s.setExhausted e).pos = s.pos := rfl
@[simp] theorem State.setExhausted_st (s : State) (e : Error) : (s.setExhausted e).st = .exhausted := rfl
@[simp] theorem State.setExhausted_cause (s : State) (e : Error) : (s.setExhausted e).cause = e := rfl
@[simp] theorem State.setExhausted_constructed (s : State) (e : Error) : (s.setExhausted e).constructed = s.constructed := rfl
@[simp] theorem State.setExhausted_freeCount (s : State) (e : Error) : (s.setExhausted e).freeCount = s.freeCount := rfl
@[simp] theorem State.setExhausted_op (s : State) (e : Error) : (s.setExhausted e).op = s.op := rfl
@[simp] theorem State.setExhausted_requests (s : State) (e : Error) : (s.setExhausted e).requests = s.requests := rfl
@[simp] theorem State.setExhausted_delivered (s : State) (e : Error) : (s.setExhausted e).delivered = s.delivered := rfl

@[simp] theorem State.setPositioned_rom (s : State) : (s.setPositioned).rom = s.rom := rfl
@[simp] theorem State.setPositioned_len (s : State) : (s.setPositioned).len = s.len := rfl
@[simp] theorem State.setPositioned_pos (s : State) : (s.setPositioned).pos = s.pos := rfl
@[simp] theorem State.setPositioned_st (s : State) : (s.setPositioned).st = .positioned := rfl
@[simp] theorem State.setPositioned_cause (s : State) : (s.setPositioned).cause = Config.freeCause s.freeCount := rfl
@[simp] theorem State.setPositioned_constructed (s : State) : (s.setPositioned).constructed = s.constructed := rfl
@[simp] theorem State.setPositioned_freeCount (s : State) : (s.setPositioned).freeCount = s.freeCount + 1 := rfl
@[simp] theorem State.setPositioned_op (s : State) : (s.setPositioned).op = s.op := rfl
@[simp] theorem State.setPositioned_requests (s : State) : (s.setPositioned).requests = s.requests := rfl
@[simp] theorem State.setPositioned_delivered (s : State) : (s.setPositioned).delivered = s.delivered := rfl

/-! ## `yield` and `raise` -/

theorem State.yield_direct {s : State} {off : Nat} (h : s.op = .direct off) (i : Instruction) (n : Nat) :
    s.yield i n = s.respond (.decodeOk i n) := by simp [State.yield, h]

theorem State.yield_next {s : State} (h : s.op = .next) (i : Instruction) (n : Nat) :
    s.yield i n = (s.advance n).respond (.nextSome i) := by simp [State.yield, h]

theorem State.yield_nextE {s : State} (h : s.op = .nextE) (i : Instruction) (n : Nat) :
    s.yield i n = (s.advance n).respond (.item i) := by simp [State.yield, h]

theorem State.raise_direct {s : State} {off : Nat} (h : s.op = .direct off) (e : Error) :
    s.raise e = s.respond (.decodeErr e) := by simp [State.raise, h]

theorem State.raise_next {s : State} (h : s.op = .next) (e : Error) :
    s.raise e = (s.setExhausted e).respond .nextNone := by simp [State.raise, h]

theorem State.raise_nextE {s : State} (h : s.op = .nextE) (e : Error) :
    s.raise e = (s.setExhausted e).respond (.ended e) := by simp [State.raise, h]

@[simp] theorem State.yield_rom (s : State) (i : Instruction) (n : Nat) : (s.yield i n).rom = s.rom := by
  unfold State.yield; split <;> rfl
@[simp] theorem State.yield_len (s : State) (i : Instruction) (n : Nat) : (s.yield i n).len = s.len := by
  unfold State.yield; split <;> rfl
@[simp] theorem State.yield_st (s : State) (i : Instruction) (n : Nat) : (s.yield i n).st = s.st := by
  unfold State.yield; split <;> rfl
@[simp] theorem State.yield_cause (s : State) (i : Instruction) (n : Nat) : (s.yield i n).cause = s.cause := by
  unfold State.yield; split <;> rfl
@[simp] theorem State.yield_constructed (s : State) (i : Instruction) (n : Nat) : (s.yield i n).constructed = s.constructed := by
  unfold State.yield; split <;> rfl
@[simp] theorem State.yield_freeCount (s : State) (i : Instruction) (n : Nat) : (s.yield i n).freeCount = s.freeCount := by
  unfold State.yield; split <;> rfl
@[simp] theorem State.yield_op (s : State) (i : Instruction) (n : Nat) : (s.yield i n).op = s.op := by
  unfold State.yield; split <;> rfl
@[simp] theorem State.yield_requests (s : State) (i : Instruction) (n : Nat) : (s.yield i n).requests = s.requests := by
  unfold State.yield; split <;> rfl

@[simp] theorem State.raise_rom (s : State) (e : Error) : (s.raise e).rom = s.rom := by
  unfold State.raise; split <;> rfl
@[simp] theorem State.raise_len (s : State) (e : Error) : (s.raise e).len = s.len := by
  unfold State.raise; split <;> rfl
@[simp] theorem State.raise_pos (s : State) (e : Error) : (s.raise e).pos = s.pos := by
  unfold State.raise; split <;> rfl
@[simp] theorem State.raise_constructed (s : State) (e : Error) : (s.raise e).constructed = s.constructed := by
  unfold State.raise; split <;> rfl
@[simp] theorem State.raise_freeCount (s : State) (e : Error) : (s.raise e).freeCount = s.freeCount := by
  unfold State.raise; split <;> rfl
@[simp] theorem State.raise_op (s : State) (e : Error) : (s.raise e).op = s.op := by
  unfold State.raise; split <;> rfl
@[simp] theorem State.raise_requests (s : State) (e : Error) : (s.raise e).requests = s.requests := by
  unfold State.raise; split <;> rfl

/-- What a successful decode hands over, under each operation. -/
theorem State.yield_delivered (s : State) (i : Instruction) (n : Nat) :
    ∃ r, (s.yield i n).delivered = r :: s.delivered ∧ (r = .decodeOk i n ∨ r = .nextSome i ∨ r = .item i) := by
  unfold State.yield
  split
  · exact ⟨_, rfl, .inl rfl⟩
  · exact ⟨_, rfl, .inr (.inl rfl)⟩
  · exact ⟨_, rfl, .inr (.inr rfl)⟩

/-- What a failed decode hands over, under each operation. -/
theorem State.raise_delivered (s : State) (e : Error) :
    ∃ r, (s.raise e).delivered = r :: s.delivered ∧ (r = .decodeErr e ∨ r = .nextNone ∨ r = .ended e) := by
  unfold State.raise
  split
  · exact ⟨_, rfl, .inl rfl⟩
  · exact ⟨_, rfl, .inr (.inl rfl)⟩
  · exact ⟨_, rfl, .inr (.inr rfl)⟩

/-- A successful decode moves `POS` by its length or not at all. -/
theorem State.yield_pos (s : State) (i : Instruction) (n : Nat) :
    (s.yield i n).pos = s.pos ∨ (s.yield i n).pos = s.pos + n := by
  unfold State.yield
  split
  · exact .inl rfl
  · exact .inr rfl
  · exact .inr rfl

/-- A failed decode leaves the control state alone or exhausts the cursor with its cause. -/
theorem State.raise_control (s : State) (e : Error) :
    ((s.raise e).st = s.st ∧ (s.raise e).cause = s.cause) ∨
      ((s.raise e).st = .exhausted ∧ (s.raise e).cause = e) := by
  unfold State.raise
  split
  · exact .inl ⟨rfl, rfl⟩
  · exact .inr ⟨rfl, rfl⟩
  · exact .inr ⟨rfl, rfl⟩

end Sys2Proof.Machine
end

