-- ==== Sys2Proof/Laws/Decode.lean ====
section
/-! SUPPORT. The laws of operand assembly and of the decoder's shape. -/

namespace Sys2Proof

/-! ## Operand assembly (`spec/45_alu.md` R273) -/

theorem lowByte_toNat (v : Word) : (lowByte v).toNat = v.toNat % 256 := by
  simp [lowByte, Nat.mod_mod_of_dvd]

theorem highByte_toNat (v : Word) : (highByte v).toNat = v.toNat / 256 := by
  have := v.isLt
  simp only [highByte, BitVec.toNat_ofNat]
  omega

theorem le16_toNat (b0 b1 : Byte) : (le16 b0 b1).toNat = b0.toNat + 256 * b1.toNat := by
  have := b0.isLt
  have := b1.isLt
  simp only [le16, BitVec.toNat_ofNat]
  omega

@[simp] theorem le16_lowByte_highByte (v : Word) : le16 (lowByte v) (highByte v) = v := by
  apply BitVec.eq_of_toNat_eq
  rw [le16_toNat, lowByte_toNat, highByte_toNat]
  omega

@[simp] theorem lowByte_le16 (b0 b1 : Byte) : lowByte (le16 b0 b1) = b0 := by
  apply BitVec.eq_of_toNat_eq
  have := b0.isLt
  rw [lowByte_toNat, le16_toNat]
  omega

@[simp] theorem highByte_le16 (b0 b1 : Byte) : highByte (le16 b0 b1) = b1 := by
  apply BitVec.eq_of_toNat_eq
  have := b0.isLt
  rw [highByte_toNat, le16_toNat]
  omega

theorem signedByteRange_iff {e : Int} : signedByteRange e = true ↔ -128 ≤ e ∧ e ≤ 127 := by
  simp [signedByteRange]

@[simp] theorem signedByteRange_sint8 (b : Byte) : signedByteRange (sint8 b) = true := by
  have := b.isLt
  rw [signedByteRange_iff, sint8]
  split <;> omega

theorem sint8_offsetByte {e : Int} (h : signedByteRange e = true) : sint8 (offsetByte e) = e := by
  rw [signedByteRange_iff] at h
  simp only [sint8, offsetByte, BitVec.toNat_ofInt]
  split <;> omega

@[simp] theorem offsetByte_sint8 (b : Byte) : offsetByte (sint8 b) = b := by
  apply BitVec.eq_of_toNat_eq
  have := b.isLt
  simp only [sint8, offsetByte, BitVec.toNat_ofInt]
  split <;> omega

/-! ## The decoder, case by case -/

theorem decode_nil : decode [] = .error .outOfData := rfl

theorem decode_escape (b1 : Byte) (rest : List Byte) : decode (escapeByte :: b1 :: rest) = .ok (extendedRow b1, 2) := rfl

theorem decode_escape_alone : decode [escapeByte] = .ok (.prefixCb, 1) := rfl

theorem decode_undefined {b0 : Byte} (h : b0 ∈ undefinedBytes) (rest : List Byte) :
    decode (b0 :: rest) = .ok (.undefined b0, 1) := by
  have hb : b0 ≠ escapeByte := by rintro rfl; revert h; decide
  simp [decode, hb, h]

/-- A defined byte that is not the escape decodes by its operand width. -/
theorem decode_defined {b0 : Byte} (hb : b0 ≠ escapeByte) (hu : b0 ∉ undefinedBytes) (rest : List Byte) :
    decode (b0 :: rest) = decodeDefined b0 rest := by
  simp [decode, hb, hu]

theorem operandWidth_le (b0 : Byte) : operandWidth b0 ≤ 2 := by
  unfold operandWidth
  split
  · decide
  · split <;> decide

theorem decodeDefined_none {b0 : Byte} (h : operandWidth b0 = 0) (rest : List Byte) :
    decodeDefined b0 rest = .ok (primaryRow b0 0 0, 1) := by simp [decodeDefined, h]

theorem decodeDefined_one {b0 : Byte} (h : operandWidth b0 = 1) (b1 : Byte) (rest : List Byte) :
    decodeDefined b0 (b1 :: rest) = .ok (primaryRow b0 b1 0, 2) := by simp [decodeDefined, h]

theorem decodeDefined_two {b0 : Byte} (h : operandWidth b0 = 2) (b1 b2 : Byte) (rest : List Byte) :
    decodeDefined b0 (b1 :: b2 :: rest) = .ok (primaryRow b0 b1 b2, 3) := by simp [decodeDefined, h]

/-- A defined byte whose operand bytes are not all present fails with `OutOfData` (`spec/42_decoder_top.md` R176). -/
theorem decodeDefined_short {b0 : Byte} {rest : List Byte} (h : rest.length < operandWidth b0) :
    decodeDefined b0 rest = .error .outOfData := by
  have hw := operandWidth_le b0
  obtain h1 | h2 : operandWidth b0 = 1 ∨ operandWidth b0 = 2 := by omega
  · cases rest with
    | nil => simp [decodeDefined, h1]
    | cons b1 rest => simp only [List.length_cons] at h; omega
  · match rest, h with
    | [], _ => simp [decodeDefined, h2]
    | [b1], _ => simp [decodeDefined, h2]
    | b1 :: b2 :: rest, h => simp only [List.length_cons] at h; omega

/-- A defined byte whose operand bytes are present decodes, consuming `1 + opw(b0)` bytes, whatever follows them. -/
theorem decodeDefined_long {b0 : Byte} {rest : List Byte} (h : operandWidth b0 ≤ rest.length) :
    ∃ b1 b2, decodeDefined b0 rest = .ok (primaryRow b0 b1 b2, 1 + operandWidth b0) := by
  have hw := operandWidth_le b0
  obtain h0 | h1 | h2 : operandWidth b0 = 0 ∨ operandWidth b0 = 1 ∨ operandWidth b0 = 2 := by omega
  · exact ⟨0, 0, by rw [decodeDefined_none h0, h0]⟩
  · cases rest with
    | nil => simp only [List.length_nil] at h; omega
    | cons b1 rest => exact ⟨b1, 0, by rw [decodeDefined_one h1, h1]⟩
  · match rest, h with
    | [], h => simp only [List.length_nil] at h; omega
    | [b1], h => simp only [List.length_cons, List.length_nil] at h; omega
    | b1 :: b2 :: rest, _ => exact ⟨b1, b2, by rw [decodeDefined_two h2, h2]⟩

/-- The decoder's one error. -/
theorem decode_error {bs : List Byte} {e : Error} (h : decode bs = .error e) : e = .outOfData := by
  cases bs with
  | nil => simpa [decode] using h.symm
  | cons b0 rest =>
    by_cases hb : b0 = escapeByte
    · subst hb
      cases rest with
      | nil => simp [decode_escape_alone] at h
      | cons b1 rest => simp [decode_escape] at h
    · by_cases hu : b0 ∈ undefinedBytes
      · simp [decode_undefined hu] at h
      · rw [decode_defined hb hu] at h
        rcases Nat.lt_or_ge rest.length (operandWidth b0) with hs | hl
        · simpa [decodeDefined_short hs] using h.symm
        · obtain ⟨b1, b2, h'⟩ := decodeDefined_long hl
          simp [h'] at h

end Sys2Proof
end

