-- ==== Sys2Proof/Laws/Ops.lean ====
section
/-! SUPPORT. One lemma per shared operation that says everything it can do: the reads of the ROM and the readers. -/

namespace Sys2Proof.Machine

open Sys2Proof

theorem State.byteAt_of_lt {s : State} {off : Nat} (h : off < s.len) : s.byteAt off = some (s.rom.read off) := by
  simp [State.byteAt, h]

theorem State.byteAt_of_le {s : State} {off : Nat} (h : s.len ≤ off) : s.byteAt off = none := by
  simp [State.byteAt, Nat.not_lt.mpr h]

@[simp] theorem State.bytesFrom_length (s : State) (off n : Nat) : (s.bytesFrom off n).length = n := by
  induction n generalizing off with
  | zero => rfl
  | succ n ih => simp [State.bytesFrom, ih]

theorem State.bytesFrom_getElem (s : State) (off n k : Nat) (h : k < (s.bytesFrom off n).length) :
    (s.bytesFrom off n)[k] = s.rom.read (off + k) := by
  induction n generalizing off k with
  | zero => simp at h
  | succ n ih =>
    cases k with
    | zero => rfl
    | succ k =>
      simp only [State.bytesFrom, List.getElem_cons_succ]
      rw [ih]
      congr 1
      omega

/-- The bytes of a run depend on the buffer alone. -/
theorem State.bytesFrom_congr {s t : State} (h : s.rom = t.rom) (off n : Nat) :
    s.bytesFrom off n = t.bytesFrom off n := by
  induction n generalizing off with
  | zero => rfl
  | succ n ih => simp [State.bytesFrom, ih, h]

theorem State.memRead_ok {s : State} {addr n : Nat} (h : addr + n ≤ s.len) :
    s.memRead addr n = .ok (s.bytesFrom addr n) := by simp [State.memRead, h]

theorem State.memRead_error {s : State} {addr n : Nat} (h : s.len < addr + n) :
    s.memRead addr n = .error .outOfData := by simp [State.memRead, Nat.not_le.mpr h]

theorem State.readU8_ok {s : State} {p : Nat} (h : p < s.len) : s.readU8 p = .ok (s.rom.read p, p + 1) := by
  simp [State.readU8, State.memRead_ok (show p + 1 ≤ s.len by omega), State.bytesFrom]

theorem State.readU8_error {s : State} {p : Nat} (h : s.len ≤ p) : s.readU8 p = .error .outOfData := by
  simp [State.readU8, State.memRead_error (show s.len < p + 1 by omega)]

theorem State.readU16_ok {s : State} {p : Nat} (h : p + 2 ≤ s.len) (order : ByteOrder) :
    s.readU16 p order = .ok (word16 order (s.rom.read p) (s.rom.read (p + 1)), p + 2) := by
  simp [State.readU16, State.memRead_ok h, State.bytesFrom]

theorem State.readU16_error {s : State} {p : Nat} (h : s.len < p + 2) (order : ByteOrder) :
    s.readU16 p order = .error .outOfData := by
  simp [State.readU16, State.memRead_error h]

theorem State.readBytes_ok {s : State} {p n : Nat} (h : p + n ≤ s.len) :
    s.readBytes p n = .ok (s.bytesFrom p n, p + n) := by simp [State.readBytes, State.memRead_ok h]

theorem State.readBytes_error {s : State} {p n : Nat} (h : s.len < p + n) :
    s.readBytes p n = .error .outOfData := by simp [State.readBytes, State.memRead_error h]

theorem State.readText_ok {s : State} {p n : Nat} (h : p + n ≤ s.len) (ht : textValid (s.bytesFrom p n) = true) :
    s.readText p n = .ok (s.bytesFrom p n, p + n) := by simp [State.readText, State.memRead_ok h, ht]

theorem State.readText_invalid {s : State} {p n : Nat} (h : p + n ≤ s.len)
    (ht : textValid (s.bytesFrom p n) = false) : s.readText p n = .error .invalidText := by
  simp [State.readText, State.memRead_ok h, ht]

theorem State.readText_error {s : State} {p n : Nat} (h : s.len < p + n) :
    s.readText p n = .error .outOfData := by simp [State.readText, State.memRead_error h]

theorem State.skip_ok {s : State} {p n : Nat} (h : p + n ≤ s.len) : s.skip p n = .ok (p + n) := by
  simp [State.skip, State.memRead_ok h]

theorem State.skip_error {s : State} {p n : Nat} (h : s.len < p + n) : s.skip p n = .error .outOfData := by
  simp [State.skip, State.memRead_error h]

/-! ## The decoder's window -/

theorem State.window_length (s : State) (off : Nat) : (s.window off).length = min 3 (s.len - off) := by
  simp [State.window]

theorem State.window_none {s : State} {off : Nat} (h : s.len ≤ off) : s.window off = [] := by
  simp [State.window, Nat.sub_eq_zero_of_le h, State.bytesFrom]

theorem State.window_one {s : State} {off : Nat} (h : s.len = off + 1) : s.window off = [s.rom.read off] := by
  simp [State.window, h, State.bytesFrom]

theorem State.window_two {s : State} {off : Nat} (h : s.len = off + 2) :
    s.window off = [s.rom.read off, s.rom.read (off + 1)] := by
  simp [State.window, h, State.bytesFrom]

theorem State.window_three {s : State} {off : Nat} (h : off + 3 ≤ s.len) :
    s.window off = [s.rom.read off, s.rom.read (off + 1), s.rom.read (off + 2)] := by
  simp [State.window, show min 3 (s.len - off) = 3 by omega, State.bytesFrom]

/-- The window depends on the buffer and the offset alone. -/
theorem State.window_congr {s t : State} (hr : s.rom = t.rom) (hl : s.len = t.len) (off : Nat) :
    s.window off = t.window off := by
  simp [State.window, hl, State.bytesFrom_congr hr]

@[simp] theorem State.window_serving (s : State) (op : DecodeOp) (off : Nat) :
    ({ s with op := op } : State).window off = s.window off := State.window_congr (by rfl) (by rfl) off

@[simp] theorem State.window_queue (s : State) (rest : List Request) (off : Nat) :
    ({ s with requests := rest } : State).window off = s.window off := State.window_congr (by rfl) (by rfl) off

theorem State.window_getElem (s : State) (off k : Nat) (h : k < (s.window off).length) :
    (s.window off)[k] = s.rom.read (off + k) := State.bytesFrom_getElem ..

end Sys2Proof.Machine
end

