-- ==== Sys2Proof/Laws/Exec.lean ====
section
/-! SUPPORT. What executing a row of the opcode table can do, said once for all 502 of them. -/

namespace Sys2Proof.Machine

open Sys2Proof

@[simp] theorem deliver_eq (i : Instruction) (n : Nat) (s : State) : deliver i n s = .next (s.yield i n) := rfl

@[simp] theorem fail_eq (e : Error) (s : State) : fail e s = .next (s.raise e) := rfl

/-- Every entry of the extended table obeys the class table's restrictions. -/
theorem extendedEntry_wf : ∀ b1 : Byte, (extendedEntry b1).wf = true := by decide

/-- A row either yields an instruction of 1, 2 or 3 bytes or takes a decode failure: it always answers a next state. -/
theorem exec_cases (i : Instr) (s : State) :
    (∃ v n, exec i s = .next (s.yield v n) ∧ 1 ≤ n ∧ n ≤ 3 ∧ (i.wf = true → v.wf = true)) ∨
      (∃ e, exec i s = .next (s.raise e) ∧ (i.wf = true → isDecodeFailure e = true)) := by
  cases i with
  | prefixCb =>
    simp only [exec, execPrefixCb]
    split
    · rename_i b1 _
      exact .inl ⟨_, _, rfl, by decide, by decide, fun _ => extendedEntry_wf b1⟩
    · exact .inr ⟨_, rfl, fun _ => rfl⟩
  | undefined b => exact .inr ⟨_, rfl, fun h => h⟩
  | _ => exact .inl ⟨_, _, rfl, by decide, by decide, fun h => h⟩

/-- A row never faults and is never refused. -/
theorem exec_next (i : Instr) (s : State) : ∃ t, exec i s = .next t := by
  obtain ⟨v, n, h, -⟩ | ⟨e, h, -⟩ := exec_cases i s
  · exact ⟨_, h⟩
  · exact ⟨_, h⟩

end Sys2Proof.Machine
end

