-- ==== Sys2Proof/Laws/Memory.lean ====
section
/-! SUPPORT. The laws of the ROM buffer's representation: read after write, and that every memory operation keeps the
canonical form and its bound. -/

namespace Sys2Proof.Machine

open Sys2Proof

@[simp] theorem Memory.read_nil (a : Nat) : Memory.read [] a = Memory.blankByte := rfl

theorem Memory.read_cons (k : Nat) (v : Byte) (m : Memory) (a : Nat) :
    Memory.read ((k, v) :: m) a = if k = a then v else Memory.read m a := rfl

theorem Memory.wfFrom_mono {lo lo' : Nat} {m : Memory} (h : lo' ≤ lo) (hm : Memory.wfFrom lo m = true) :
    Memory.wfFrom lo' m = true := by
  cases m with
  | nil => rfl
  | cons c m =>
    simp only [Memory.wfFrom, Bool.and_eq_true, decide_eq_true_eq] at hm ⊢
    exact ⟨⟨by omega, hm.1.2⟩, hm.2⟩

theorem Memory.read_below_wfFrom {lo a : Nat} {m : Memory} (hm : Memory.wfFrom lo m = true) (h : a < lo) :
    Memory.read m a = Memory.blankByte := by
  induction m generalizing lo with
  | nil => rfl
  | cons c m ih =>
    obtain ⟨k, v⟩ := c
    simp only [Memory.wfFrom, Bool.and_eq_true, decide_eq_true_eq] at hm
    rw [Memory.read_cons, if_neg (by omega)]
    exact ih hm.2 (by omega)

/-- A read after a write to the same address gives the value written. -/
theorem Memory.read_write_same {lo : Nat} {m : Memory} (hm : Memory.wfFrom lo m = true) (a : Nat) (v : Byte) :
    Memory.read (Memory.write m a v) a = v := by
  induction m generalizing lo with
  | nil => by_cases hv : v = Memory.blankByte <;> simp [Memory.write, hv, Memory.read_cons]
  | cons c m ih =>
    obtain ⟨k, w⟩ := c
    simp only [Memory.wfFrom, Bool.and_eq_true, decide_eq_true_eq] at hm
    have hm' := hm.2
    unfold Memory.write
    split
    · split
      · rename_i hlt hv
        rw [Memory.read_cons, if_neg (by omega), Memory.read_below_wfFrom hm' (by omega), hv]
      · rw [Memory.read_cons, if_pos rfl]
    · split
      · split
        · rename_i hv
          rw [Memory.read_below_wfFrom hm' (by omega), hv]
        · rw [Memory.read_cons, if_pos rfl]
      · rw [Memory.read_cons, if_neg (by omega)]
        exact ih hm'

/-- A write leaves every other address alone. -/
theorem Memory.read_write_other (m : Memory) {a b : Nat} (h : b ≠ a) (v : Byte) :
    Memory.read (Memory.write m a v) b = Memory.read m b := by
  induction m with
  | nil => by_cases hv : v = Memory.blankByte <;> simp [Memory.write, hv, Memory.read_cons, Ne.symm h]
  | cons c m ih =>
    obtain ⟨k, w⟩ := c
    unfold Memory.write
    split
    · split
      · rfl
      · rw [Memory.read_cons, if_neg (by omega)]
    · split
      · rename_i hk
        split <;> simp [Memory.read_cons, ← hk, Ne.symm h]
      · simp only [Memory.read_cons, ih]

theorem Memory.write_wfFrom {lo : Nat} {m : Memory} (hm : Memory.wfFrom lo m = true) {a : Nat} (ha : lo ≤ a) (v : Byte) :
    Memory.wfFrom lo (Memory.write m a v) = true := by
  induction m generalizing lo with
  | nil =>
    by_cases hv : v = Memory.blankByte
    · simp [Memory.write, hv, Memory.wfFrom]
    · simp [Memory.write, hv, Memory.wfFrom, ha]
  | cons c m ih =>
    obtain ⟨k, w⟩ := c
    have hm0 := hm
    simp only [Memory.wfFrom, Bool.and_eq_true, decide_eq_true_eq] at hm
    unfold Memory.write
    split
    · split
      · exact hm0
      · rename_i hlt hv
        simp only [Memory.wfFrom, Bool.and_eq_true, decide_eq_true_eq]
        exact ⟨⟨ha, hv⟩, ⟨by omega, hm.1.2⟩, hm.2⟩
    · split
      · split
        · exact Memory.wfFrom_mono (by omega) hm.2
        · rename_i hk hv
          simp only [Memory.wfFrom, Bool.and_eq_true, decide_eq_true_eq]
          exact ⟨⟨ha, hv⟩, hk ▸ hm.2⟩
      · simp only [Memory.wfFrom, Bool.and_eq_true, decide_eq_true_eq]
        exact ⟨⟨hm.1.1, hm.1.2⟩, ih hm.2 (by omega)⟩

/-- Writing a byte keeps the canonical form. -/
theorem Memory.write_wf {m : Memory} (hm : Memory.wf m = true) (a : Nat) (v : Byte) :
    Memory.wf (Memory.write m a v) = true :=
  Memory.write_wfFrom hm (Nat.zero_le a) v

theorem Memory.write_below {m : Memory} {n a : Nat} (hm : Memory.below m n = true) (ha : a < n) (v : Byte) :
    Memory.below (Memory.write m a v) n = true := by
  induction m with
  | nil => by_cases hv : v = Memory.blankByte <;> simp [Memory.write, hv, Memory.below, ha]
  | cons c m ih =>
    obtain ⟨k, w⟩ := c
    simp only [Memory.below, List.all_cons, Bool.and_eq_true, decide_eq_true_eq] at hm ih
    unfold Memory.write
    split
    · split <;> simp [Memory.below, ha, hm]
    · split
      · split <;> simp [Memory.below, ha] <;> simpa using hm.2
      · simp only [Memory.below, List.all_cons, Bool.and_eq_true, decide_eq_true_eq]
        exact ⟨hm.1, ih hm.2⟩

/-- Writing a run of bytes keeps the canonical form. -/
theorem Memory.writeBytes_wf {m : Memory} (hm : Memory.wf m = true) (a : Nat) (bs : List Byte) :
    Memory.wf (Memory.writeBytes m a bs) = true := by
  induction bs generalizing m a with
  | nil => exact hm
  | cons b bs ih => exact ih (Memory.write_wf hm a b) (a + 1)

theorem Memory.writeBytes_below {m : Memory} {n a : Nat} (hm : Memory.below m n = true) (bs : List Byte)
    (h : a + bs.length ≤ n) : Memory.below (Memory.writeBytes m a bs) n = true := by
  induction bs generalizing m a with
  | nil => exact hm
  | cons b bs ih =>
    simp only [List.length_cons] at h
    exact ih (Memory.write_below hm (by omega) b) (by omega)

/-- A run of bytes leaves every address outside it alone. -/
theorem Memory.read_writeBytes_outside (m : Memory) (a : Nat) (bs : List Byte) {b : Nat}
    (h : b < a ∨ a + bs.length ≤ b) : Memory.read (Memory.writeBytes m a bs) b = Memory.read m b := by
  induction bs generalizing m a with
  | nil => rfl
  | cons x bs ih =>
    simp only [List.length_cons] at h
    rw [Memory.writeBytes, ih (Memory.write m a x) (a + 1) (by omega), Memory.read_write_other m (by omega)]

/-- A run of bytes reads back. -/
theorem Memory.read_writeBytes_inside {m : Memory} (hm : Memory.wf m = true) (a : Nat) (bs : List Byte) {k : Nat}
    (h : k < bs.length) : Memory.read (Memory.writeBytes m a bs) (a + k) = bs[k] := by
  induction bs generalizing m a k with
  | nil => simp at h
  | cons x bs ih =>
    rw [Memory.writeBytes]
    cases k with
    | zero =>
      rw [Memory.read_writeBytes_outside _ _ _ (by omega)]
      exact Memory.read_write_same (lo := 0) hm a x
    | succ k =>
      have := ih (Memory.write_wf hm a x) (a + 1) (k := k) (by simpa using h)
      rw [show a + (k + 1) = a + 1 + k by omega, this]
      rfl

/-- Equal reads, equal canonical lists: the representation of a buffer is unique. -/
theorem Memory.eq_of_read_eq {lo : Nat} {m m' : Memory} (hm : Memory.wfFrom lo m = true)
    (hm' : Memory.wfFrom lo m' = true) (h : ∀ a, Memory.read m a = Memory.read m' a) : m = m' := by
  induction m generalizing lo m' with
  | nil =>
    cases m' with
    | nil => rfl
    | cons c m' =>
      simp only [Memory.wfFrom, Bool.and_eq_true, decide_eq_true_eq] at hm'
      have := h c.1
      rw [show c = (c.1, c.2) from rfl, Memory.read_cons, if_pos rfl] at this
      exact absurd this.symm hm'.1.2
  | cons c m ih =>
    obtain ⟨k, v⟩ := c
    have hm0 := hm
    simp only [Memory.wfFrom, Bool.and_eq_true, decide_eq_true_eq] at hm
    cases m' with
    | nil =>
      have := h k
      rw [Memory.read_cons, if_pos rfl] at this
      exact absurd this hm.1.2
    | cons c' m' =>
      obtain ⟨k', v'⟩ := c'
      have hm0' := hm'
      simp only [Memory.wfFrom, Bool.and_eq_true, decide_eq_true_eq] at hm'
      have hk : k = k' := by
        rcases Nat.lt_trichotomy k k' with hlt | heq | hlt
        · have := h k
          rw [Memory.read_cons, if_pos rfl, Memory.read_cons, if_neg (by omega),
            Memory.read_below_wfFrom hm'.2 (by omega)] at this
          exact absurd this hm.1.2
        · exact heq
        · have := h k'
          rw [Memory.read_cons, if_neg (by omega), Memory.read_cons, if_pos rfl,
            Memory.read_below_wfFrom hm.2 (by omega)] at this
          exact absurd this.symm hm'.1.2
      subst hk
      have hv : v = v' := by simpa [Memory.read_cons] using h k
      subst hv
      have htail : m = m' := by
        refine ih hm.2 hm'.2 fun a => ?_
        by_cases ha : k = a
        · subst ha
          rw [Memory.read_below_wfFrom hm.2 (by omega), Memory.read_below_wfFrom hm'.2 (by omega)]
        · simpa [Memory.read_cons, ha] using h a
      rw [htail]

end Sys2Proof.Machine
end

