-- ==== Sys2Proof/Laws/PerInstr.lean ====
section
/-! SUPPORT. The family RoundTrip, one lemma per row of the opcode table: the row's bytes decode to the row with every
operand it has, whatever follows them. -/

namespace Sys2Proof.Laws.RoundTrip

open Sys2Proof

/-- A well-formed row's bytes decode to it and to their number, whatever bytes follow. The escape row is left out: with a
byte after it the escape selects that byte's extended row (`spec/42_decoder_top.md` R173). -/
def Statement (i : Instr) : Prop :=
  i.wf = true → i ≠ .prefixCb → ∀ rest, decode (encode i ++ rest) = .ok (i, (encode i).length)

theorem nop : Statement .nop := fun _ _ _ => rfl
theorem ldBcD16 (d16 : Word) : Statement (.ldBcD16 d16) := fun _ _ _ =>
  congrArg (fun v => Except.ok (Instr.ldBcD16 v, 3)) (le16_lowByte_highByte d16)
theorem ldMemBcA : Statement .ldMemBcA := fun _ _ _ => rfl
theorem incBc : Statement .incBc := fun _ _ _ => rfl
theorem incB : Statement .incB := fun _ _ _ => rfl
theorem decB : Statement .decB := fun _ _ _ => rfl
theorem ldBD8 (d8 : Byte) : Statement (.ldBD8 d8) := fun _ _ _ => rfl
theorem rlca : Statement .rlca := fun _ _ _ => rfl
theorem ldMemA16Sp (a16 : Word) : Statement (.ldMemA16Sp a16) := fun _ _ _ =>
  congrArg (fun v => Except.ok (Instr.ldMemA16Sp v, 3)) (le16_lowByte_highByte a16)
theorem addHlBc : Statement .addHlBc := fun _ _ _ => rfl
theorem ldAMemBc : Statement .ldAMemBc := fun _ _ _ => rfl
theorem decBc : Statement .decBc := fun _ _ _ => rfl
theorem incC : Statement .incC := fun _ _ _ => rfl
theorem decC : Statement .decC := fun _ _ _ => rfl
theorem ldCD8 (d8 : Byte) : Statement (.ldCD8 d8) := fun _ _ _ => rfl
theorem rrca : Statement .rrca := fun _ _ _ => rfl
theorem stop : Statement .stop := fun _ _ _ => rfl
theorem ldDeD16 (d16 : Word) : Statement (.ldDeD16 d16) := fun _ _ _ =>
  congrArg (fun v => Except.ok (Instr.ldDeD16 v, 3)) (le16_lowByte_highByte d16)
theorem ldMemDeA : Statement .ldMemDeA := fun _ _ _ => rfl
theorem incDe : Statement .incDe := fun _ _ _ => rfl
theorem incD : Statement .incD := fun _ _ _ => rfl
theorem decD : Statement .decD := fun _ _ _ => rfl
theorem ldDD8 (d8 : Byte) : Statement (.ldDD8 d8) := fun _ _ _ => rfl
theorem rla : Statement .rla := fun _ _ _ => rfl
theorem jrE8 (e8 : Int) : Statement (.jrE8 e8) := fun h _ _ =>
  congrArg (fun e => Except.ok (Instr.jrE8 e, 2)) (sint8_offsetByte h)
theorem addHlDe : Statement .addHlDe := fun _ _ _ => rfl
theorem ldAMemDe : Statement .ldAMemDe := fun _ _ _ => rfl
theorem decDe : Statement .decDe := fun _ _ _ => rfl
theorem incE : Statement .incE := fun _ _ _ => rfl
theorem decE : Statement .decE := fun _ _ _ => rfl
theorem ldED8 (d8 : Byte) : Statement (.ldED8 d8) := fun _ _ _ => rfl
theorem rra : Statement .rra := fun _ _ _ => rfl
theorem jrNzE8 (e8 : Int) : Statement (.jrNzE8 e8) := fun h _ _ =>
  congrArg (fun e => Except.ok (Instr.jrNzE8 e, 2)) (sint8_offsetByte h)
theorem ldHlD16 (d16 : Word) : Statement (.ldHlD16 d16) := fun _ _ _ =>
  congrArg (fun v => Except.ok (Instr.ldHlD16 v, 3)) (le16_lowByte_highByte d16)
theorem ldMemHlIncA : Statement .ldMemHlIncA := fun _ _ _ => rfl
theorem incHl : Statement .incHl := fun _ _ _ => rfl
theorem incH : Statement .incH := fun _ _ _ => rfl
theorem decH : Statement .decH := fun _ _ _ => rfl
theorem ldHD8 (d8 : Byte) : Statement (.ldHD8 d8) := fun _ _ _ => rfl
theorem daa : Statement .daa := fun _ _ _ => rfl
theorem jrZE8 (e8 : Int) : Statement (.jrZE8 e8) := fun h _ _ =>
  congrArg (fun e => Except.ok (Instr.jrZE8 e, 2)) (sint8_offsetByte h)
theorem addHlHl : Statement .addHlHl := fun _ _ _ => rfl
theorem ldAMemHlInc : Statement .ldAMemHlInc := fun _ _ _ => rfl
theorem decHl : Statement .decHl := fun _ _ _ => rfl
theorem incL : Statement .incL := fun _ _ _ => rfl
theorem decL : Statement .decL := fun _ _ _ => rfl
theorem ldLD8 (d8 : Byte) : Statement (.ldLD8 d8) := fun _ _ _ => rfl
theorem cpl : Statement .cpl := fun _ _ _ => rfl
theorem jrNcE8 (e8 : Int) : Statement (.jrNcE8 e8) := fun h _ _ =>
  congrArg (fun e => Except.ok (Instr.jrNcE8 e, 2)) (sint8_offsetByte h)
theorem ldSpD16 (d16 : Word) : Statement (.ldSpD16 d16) := fun _ _ _ =>
  congrArg (fun v => Except.ok (Instr.ldSpD16 v, 3)) (le16_lowByte_highByte d16)
theorem ldMemHlDecA : Statement .ldMemHlDecA := fun _ _ _ => rfl
theorem incSp : Statement .incSp := fun _ _ _ => rfl
theorem incMemHl : Statement .incMemHl := fun _ _ _ => rfl
theorem decMemHl : Statement .decMemHl := fun _ _ _ => rfl
theorem ldMemHlD8 (d8 : Byte) : Statement (.ldMemHlD8 d8) := fun _ _ _ => rfl
theorem scf : Statement .scf := fun _ _ _ => rfl
theorem jrCE8 (e8 : Int) : Statement (.jrCE8 e8) := fun h _ _ =>
  congrArg (fun e => Except.ok (Instr.jrCE8 e, 2)) (sint8_offsetByte h)
theorem addHlSp : Statement .addHlSp := fun _ _ _ => rfl
theorem ldAMemHlDec : Statement .ldAMemHlDec := fun _ _ _ => rfl
theorem decSp : Statement .decSp := fun _ _ _ => rfl
theorem incA : Statement .incA := fun _ _ _ => rfl
theorem decA : Statement .decA := fun _ _ _ => rfl
theorem ldAD8 (d8 : Byte) : Statement (.ldAD8 d8) := fun _ _ _ => rfl
theorem ccf : Statement .ccf := fun _ _ _ => rfl
theorem ldBB : Statement .ldBB := fun _ _ _ => rfl
theorem ldBC : Statement .ldBC := fun _ _ _ => rfl
theorem ldBD : Statement .ldBD := fun _ _ _ => rfl
theorem ldBE : Statement .ldBE := fun _ _ _ => rfl
theorem ldBH : Statement .ldBH := fun _ _ _ => rfl
theorem ldBL : Statement .ldBL := fun _ _ _ => rfl
theorem ldBMemHl : Statement .ldBMemHl := fun _ _ _ => rfl
theorem ldBA : Statement .ldBA := fun _ _ _ => rfl
theorem ldCB : Statement .ldCB := fun _ _ _ => rfl
theorem ldCC : Statement .ldCC := fun _ _ _ => rfl
theorem ldCD : Statement .ldCD := fun _ _ _ => rfl
theorem ldCE : Statement .ldCE := fun _ _ _ => rfl
theorem ldCH : Statement .ldCH := fun _ _ _ => rfl
theorem ldCL : Statement .ldCL := fun _ _ _ => rfl
theorem ldCMemHl : Statement .ldCMemHl := fun _ _ _ => rfl
theorem ldCA : Statement .ldCA := fun _ _ _ => rfl
theorem ldDB : Statement .ldDB := fun _ _ _ => rfl
theorem ldDC : Statement .ldDC := fun _ _ _ => rfl
theorem ldDD : Statement .ldDD := fun _ _ _ => rfl
theorem ldDE : Statement .ldDE := fun _ _ _ => rfl
theorem ldDH : Statement .ldDH := fun _ _ _ => rfl
theorem ldDL : Statement .ldDL := fun _ _ _ => rfl
theorem ldDMemHl : Statement .ldDMemHl := fun _ _ _ => rfl
theorem ldDA : Statement .ldDA := fun _ _ _ => rfl
theorem ldEB : Statement .ldEB := fun _ _ _ => rfl
theorem ldEC : Statement .ldEC := fun _ _ _ => rfl
theorem ldED : Statement .ldED := fun _ _ _ => rfl
theorem ldEE : Statement .ldEE := fun _ _ _ => rfl
theorem ldEH : Statement .ldEH := fun _ _ _ => rfl
theorem ldEL : Statement .ldEL := fun _ _ _ => rfl
theorem ldEMemHl : Statement .ldEMemHl := fun _ _ _ => rfl
theorem ldEA : Statement .ldEA := fun _ _ _ => rfl
theorem ldHB : Statement .ldHB := fun _ _ _ => rfl
theorem ldHC : Statement .ldHC := fun _ _ _ => rfl
theorem ldHD : Statement .ldHD := fun _ _ _ => rfl
theorem ldHE : Statement .ldHE := fun _ _ _ => rfl
theorem ldHH : Statement .ldHH := fun _ _ _ => rfl
theorem ldHL : Statement .ldHL := fun _ _ _ => rfl
theorem ldHMemHl : Statement .ldHMemHl := fun _ _ _ => rfl
theorem ldHA : Statement .ldHA := fun _ _ _ => rfl
theorem ldLB : Statement .ldLB := fun _ _ _ => rfl
theorem ldLC : Statement .ldLC := fun _ _ _ => rfl
theorem ldLD : Statement .ldLD := fun _ _ _ => rfl
theorem ldLE : Statement .ldLE := fun _ _ _ => rfl
theorem ldLH : Statement .ldLH := fun _ _ _ => rfl
theorem ldLL : Statement .ldLL := fun _ _ _ => rfl
theorem ldLMemHl : Statement .ldLMemHl := fun _ _ _ => rfl
theorem ldLA : Statement .ldLA := fun _ _ _ => rfl
theorem ldMemHlB : Statement .ldMemHlB := fun _ _ _ => rfl
theorem ldMemHlC : Statement .ldMemHlC := fun _ _ _ => rfl
theorem ldMemHlD : Statement .ldMemHlD := fun _ _ _ => rfl
theorem ldMemHlE : Statement .ldMemHlE := fun _ _ _ => rfl
theorem ldMemHlH : Statement .ldMemHlH := fun _ _ _ => rfl
theorem ldMemHlL : Statement .ldMemHlL := fun _ _ _ => rfl
theorem halt : Statement .halt := fun _ _ _ => rfl
theorem ldMemHlA : Statement .ldMemHlA := fun _ _ _ => rfl
theorem ldAB : Statement .ldAB := fun _ _ _ => rfl
theorem ldAC : Statement .ldAC := fun _ _ _ => rfl
theorem ldAD : Statement .ldAD := fun _ _ _ => rfl
theorem ldAE : Statement .ldAE := fun _ _ _ => rfl
theorem ldAH : Statement .ldAH := fun _ _ _ => rfl
theorem ldAL : Statement .ldAL := fun _ _ _ => rfl
theorem ldAMemHl : Statement .ldAMemHl := fun _ _ _ => rfl
theorem ldAA : Statement .ldAA := fun _ _ _ => rfl
theorem addAB : Statement .addAB := fun _ _ _ => rfl
theorem addAC : Statement .addAC := fun _ _ _ => rfl
theorem addAD : Statement .addAD := fun _ _ _ => rfl
theorem addAE : Statement .addAE := fun _ _ _ => rfl
theorem addAH : Statement .addAH := fun _ _ _ => rfl
theorem addAL : Statement .addAL := fun _ _ _ => rfl
theorem addAMemHl : Statement .addAMemHl := fun _ _ _ => rfl
theorem addAA : Statement .addAA := fun _ _ _ => rfl
theorem adcAB : Statement .adcAB := fun _ _ _ => rfl
theorem adcAC : Statement .adcAC := fun _ _ _ => rfl
theorem adcAD : Statement .adcAD := fun _ _ _ => rfl
theorem adcAE : Statement .adcAE := fun _ _ _ => rfl
theorem adcAH : Statement .adcAH := fun _ _ _ => rfl
theorem adcAL : Statement .adcAL := fun _ _ _ => rfl
theorem adcAMemHl : Statement .adcAMemHl := fun _ _ _ => rfl
theorem adcAA : Statement .adcAA := fun _ _ _ => rfl
theorem subB : Statement .subB := fun _ _ _ => rfl
theorem subC : Statement .subC := fun _ _ _ => rfl
theorem subD : Statement .subD := fun _ _ _ => rfl
theorem subE : Statement .subE := fun _ _ _ => rfl
theorem subH : Statement .subH := fun _ _ _ => rfl
theorem subL : Statement .subL := fun _ _ _ => rfl
theorem subMemHl : Statement .subMemHl := fun _ _ _ => rfl
theorem subA : Statement .subA := fun _ _ _ => rfl
theorem sbcAB : Statement .sbcAB := fun _ _ _ => rfl
theorem sbcAC : Statement .sbcAC := fun _ _ _ => rfl
theorem sbcAD : Statement .sbcAD := fun _ _ _ => rfl
theorem sbcAE : Statement .sbcAE := fun _ _ _ => rfl
theorem sbcAH : Statement .sbcAH := fun _ _ _ => rfl
theorem sbcAL : Statement .sbcAL := fun _ _ _ => rfl
theorem sbcAMemHl : Statement .sbcAMemHl := fun _ _ _ => rfl
theorem sbcAA : Statement .sbcAA := fun _ _ _ => rfl
theorem andB : Statement .andB := fun _ _ _ => rfl
theorem andC : Statement .andC := fun _ _ _ => rfl
theorem andD : Statement .andD := fun _ _ _ => rfl
theorem andE : Statement .andE := fun _ _ _ => rfl
theorem andH : Statement .andH := fun _ _ _ => rfl
theorem andL : Statement .andL := fun _ _ _ => rfl
theorem andMemHl : Statement .andMemHl := fun _ _ _ => rfl
theorem andA : Statement .andA := fun _ _ _ => rfl
theorem xorB : Statement .xorB := fun _ _ _ => rfl
theorem xorC : Statement .xorC := fun _ _ _ => rfl
theorem xorD : Statement .xorD := fun _ _ _ => rfl
theorem xorE : Statement .xorE := fun _ _ _ => rfl
theorem xorH : Statement .xorH := fun _ _ _ => rfl
theorem xorL : Statement .xorL := fun _ _ _ => rfl
theorem xorMemHl : Statement .xorMemHl := fun _ _ _ => rfl
theorem xorA : Statement .xorA := fun _ _ _ => rfl
theorem orB : Statement .orB := fun _ _ _ => rfl
theorem orC : Statement .orC := fun _ _ _ => rfl
theorem orD : Statement .orD := fun _ _ _ => rfl
theorem orE : Statement .orE := fun _ _ _ => rfl
theorem orH : Statement .orH := fun _ _ _ => rfl
theorem orL : Statement .orL := fun _ _ _ => rfl
theorem orMemHl : Statement .orMemHl := fun _ _ _ => rfl
theorem orA : Statement .orA := fun _ _ _ => rfl
theorem cpB : Statement .cpB := fun _ _ _ => rfl
theorem cpC : Statement .cpC := fun _ _ _ => rfl
theorem cpD : Statement .cpD := fun _ _ _ => rfl
theorem cpE : Statement .cpE := fun _ _ _ => rfl
theorem cpH : Statement .cpH := fun _ _ _ => rfl
theorem cpL : Statement .cpL := fun _ _ _ => rfl
theorem cpMemHl : Statement .cpMemHl := fun _ _ _ => rfl
theorem cpA : Statement .cpA := fun _ _ _ => rfl
theorem retNz : Statement .retNz := fun _ _ _ => rfl
theorem popBc : Statement .popBc := fun _ _ _ => rfl
theorem jpNzA16 (a16 : Word) : Statement (.jpNzA16 a16) := fun _ _ _ =>
  congrArg (fun v => Except.ok (Instr.jpNzA16 v, 3)) (le16_lowByte_highByte a16)
theorem jpA16 (a16 : Word) : Statement (.jpA16 a16) := fun _ _ _ =>
  congrArg (fun v => Except.ok (Instr.jpA16 v, 3)) (le16_lowByte_highByte a16)
theorem callNzA16 (a16 : Word) : Statement (.callNzA16 a16) := fun _ _ _ =>
  congrArg (fun v => Except.ok (Instr.callNzA16 v, 3)) (le16_lowByte_highByte a16)
theorem pushBc : Statement .pushBc := fun _ _ _ => rfl
theorem addAD8 (d8 : Byte) : Statement (.addAD8 d8) := fun _ _ _ => rfl
theorem rst00 : Statement .rst00 := fun _ _ _ => rfl
theorem retZ : Statement .retZ := fun _ _ _ => rfl
theorem ret : Statement .ret := fun _ _ _ => rfl
theorem jpZA16 (a16 : Word) : Statement (.jpZA16 a16) := fun _ _ _ =>
  congrArg (fun v => Except.ok (Instr.jpZA16 v, 3)) (le16_lowByte_highByte a16)
theorem prefixCb : Statement .prefixCb := fun _ h => absurd rfl h
theorem callZA16 (a16 : Word) : Statement (.callZA16 a16) := fun _ _ _ =>
  congrArg (fun v => Except.ok (Instr.callZA16 v, 3)) (le16_lowByte_highByte a16)
theorem callA16 (a16 : Word) : Statement (.callA16 a16) := fun _ _ _ =>
  congrArg (fun v => Except.ok (Instr.callA16 v, 3)) (le16_lowByte_highByte a16)
theorem adcAD8 (d8 : Byte) : Statement (.adcAD8 d8) := fun _ _ _ => rfl
theorem rst08 : Statement .rst08 := fun _ _ _ => rfl
theorem retNc : Statement .retNc := fun _ _ _ => rfl
theorem popDe : Statement .popDe := fun _ _ _ => rfl
theorem jpNcA16 (a16 : Word) : Statement (.jpNcA16 a16) := fun _ _ _ =>
  congrArg (fun v => Except.ok (Instr.jpNcA16 v, 3)) (le16_lowByte_highByte a16)
theorem undefined (b : Byte) : Statement (.undefined b) := fun h _ rest =>
  decode_undefined (by simpa [Instr.wf] using h) rest
theorem callNcA16 (a16 : Word) : Statement (.callNcA16 a16) := fun _ _ _ =>
  congrArg (fun v => Except.ok (Instr.callNcA16 v, 3)) (le16_lowByte_highByte a16)
theorem pushDe : Statement .pushDe := fun _ _ _ => rfl
theorem subD8 (d8 : Byte) : Statement (.subD8 d8) := fun _ _ _ => rfl
theorem rst10 : Statement .rst10 := fun _ _ _ => rfl
theorem retC : Statement .retC := fun _ _ _ => rfl
theorem reti : Statement .reti := fun _ _ _ => rfl
theorem jpCA16 (a16 : Word) : Statement (.jpCA16 a16) := fun _ _ _ =>
  congrArg (fun v => Except.ok (Instr.jpCA16 v, 3)) (le16_lowByte_highByte a16)
theorem callCA16 (a16 : Word) : Statement (.callCA16 a16) := fun _ _ _ =>
  congrArg (fun v => Except.ok (Instr.callCA16 v, 3)) (le16_lowByte_highByte a16)
theorem sbcAD8 (d8 : Byte) : Statement (.sbcAD8 d8) := fun _ _ _ => rfl
theorem rst18 : Statement .rst18 := fun _ _ _ => rfl
theorem ldhMemA8A (a8 : Byte) : Statement (.ldhMemA8A a8) := fun _ _ _ => rfl
theorem popHl : Statement .popHl := fun _ _ _ => rfl
theorem ldhMemCA : Statement .ldhMemCA := fun _ _ _ => rfl
theorem pushHl : Statement .pushHl := fun _ _ _ => rfl
theorem andD8 (d8 : Byte) : Statement (.andD8 d8) := fun _ _ _ => rfl
theorem rst20 : Statement .rst20 := fun _ _ _ => rfl
theorem addSpE8 (e8 : Int) : Statement (.addSpE8 e8) := fun h _ _ =>
  congrArg (fun e => Except.ok (Instr.addSpE8 e, 2)) (sint8_offsetByte h)
theorem jpHl : Statement .jpHl := fun _ _ _ => rfl
theorem ldMemA16A (a16 : Word) : Statement (.ldMemA16A a16) := fun _ _ _ =>
  congrArg (fun v => Except.ok (Instr.ldMemA16A v, 3)) (le16_lowByte_highByte a16)
theorem xorD8 (d8 : Byte) : Statement (.xorD8 d8) := fun _ _ _ => rfl
theorem rst28 : Statement .rst28 := fun _ _ _ => rfl
theorem ldhAMemA8 (a8 : Byte) : Statement (.ldhAMemA8 a8) := fun _ _ _ => rfl
theorem popAf : Statement .popAf := fun _ _ _ => rfl
theorem ldhAMemC : Statement .ldhAMemC := fun _ _ _ => rfl
theorem di : Statement .di := fun _ _ _ => rfl
theorem pushAf : Statement .pushAf := fun _ _ _ => rfl
theorem orD8 (d8 : Byte) : Statement (.orD8 d8) := fun _ _ _ => rfl
theorem rst30 : Statement .rst30 := fun _ _ _ => rfl
theorem ldHlSpE8 (e8 : Int) : Statement (.ldHlSpE8 e8) := fun h _ _ =>
  congrArg (fun e => Except.ok (Instr.ldHlSpE8 e, 2)) (sint8_offsetByte h)
theorem ldSpHl : Statement .ldSpHl := fun _ _ _ => rfl
theorem ldAMemA16 (a16 : Word) : Statement (.ldAMemA16 a16) := fun _ _ _ =>
  congrArg (fun v => Except.ok (Instr.ldAMemA16 v, 3)) (le16_lowByte_highByte a16)
theorem ei : Statement .ei := fun _ _ _ => rfl
theorem cpD8 (d8 : Byte) : Statement (.cpD8 d8) := fun _ _ _ => rfl
theorem rst38 : Statement .rst38 := fun _ _ _ => rfl
theorem rlcB : Statement .rlcB := fun _ _ _ => rfl
theorem rlcC : Statement .rlcC := fun _ _ _ => rfl
theorem rlcD : Statement .rlcD := fun _ _ _ => rfl
theorem rlcE : Statement .rlcE := fun _ _ _ => rfl
theorem rlcH : Statement .rlcH := fun _ _ _ => rfl
theorem rlcL : Statement .rlcL := fun _ _ _ => rfl
theorem rlcMemHl : Statement .rlcMemHl := fun _ _ _ => rfl
theorem rlcA : Statement .rlcA := fun _ _ _ => rfl
theorem rrcB : Statement .rrcB := fun _ _ _ => rfl
theorem rrcC : Statement .rrcC := fun _ _ _ => rfl
theorem rrcD : Statement .rrcD := fun _ _ _ => rfl
theorem rrcE : Statement .rrcE := fun _ _ _ => rfl
theorem rrcH : Statement .rrcH := fun _ _ _ => rfl
theorem rrcL : Statement .rrcL := fun _ _ _ => rfl
theorem rrcMemHl : Statement .rrcMemHl := fun _ _ _ => rfl
theorem rrcA : Statement .rrcA := fun _ _ _ => rfl
theorem rlB : Statement .rlB := fun _ _ _ => rfl
theorem rlC : Statement .rlC := fun _ _ _ => rfl
theorem rlD : Statement .rlD := fun _ _ _ => rfl
theorem rlE : Statement .rlE := fun _ _ _ => rfl
theorem rlH : Statement .rlH := fun _ _ _ => rfl
theorem rlL : Statement .rlL := fun _ _ _ => rfl
theorem rlMemHl : Statement .rlMemHl := fun _ _ _ => rfl
theorem rlA : Statement .rlA := fun _ _ _ => rfl
theorem rrB : Statement .rrB := fun _ _ _ => rfl
theorem rrC : Statement .rrC := fun _ _ _ => rfl
theorem rrD : Statement .rrD := fun _ _ _ => rfl
theorem rrE : Statement .rrE := fun _ _ _ => rfl
theorem rrH : Statement .rrH := fun _ _ _ => rfl
theorem rrL : Statement .rrL := fun _ _ _ => rfl
theorem rrMemHl : Statement .rrMemHl := fun _ _ _ => rfl
theorem rrA : Statement .rrA := fun _ _ _ => rfl
theorem slaB : Statement .slaB := fun _ _ _ => rfl
theorem slaC : Statement .slaC := fun _ _ _ => rfl
theorem slaD : Statement .slaD := fun _ _ _ => rfl
theorem slaE : Statement .slaE := fun _ _ _ => rfl
theorem slaH : Statement .slaH := fun _ _ _ => rfl
theorem slaL : Statement .slaL := fun _ _ _ => rfl
theorem slaMemHl : Statement .slaMemHl := fun _ _ _ => rfl
theorem slaA : Statement .slaA := fun _ _ _ => rfl
theorem sraB : Statement .sraB := fun _ _ _ => rfl
theorem sraC : Statement .sraC := fun _ _ _ => rfl
theorem sraD : Statement .sraD := fun _ _ _ => rfl
theorem sraE : Statement .sraE := fun _ _ _ => rfl
theorem sraH : Statement .sraH := fun _ _ _ => rfl
theorem sraL : Statement .sraL := fun _ _ _ => rfl
theorem sraMemHl : Statement .sraMemHl := fun _ _ _ => rfl
theorem sraA : Statement .sraA := fun _ _ _ => rfl
theorem swapB : Statement .swapB := fun _ _ _ => rfl
theorem swapC : Statement .swapC := fun _ _ _ => rfl
theorem swapD : Statement .swapD := fun _ _ _ => rfl
theorem swapE : Statement .swapE := fun _ _ _ => rfl
theorem swapH : Statement .swapH := fun _ _ _ => rfl
theorem swapL : Statement .swapL := fun _ _ _ => rfl
theorem swapMemHl : Statement .swapMemHl := fun _ _ _ => rfl
theorem swapA : Statement .swapA := fun _ _ _ => rfl
theorem srlB : Statement .srlB := fun _ _ _ => rfl
theorem srlC : Statement .srlC := fun _ _ _ => rfl
theorem srlD : Statement .srlD := fun _ _ _ => rfl
theorem srlE : Statement .srlE := fun _ _ _ => rfl
theorem srlH : Statement .srlH := fun _ _ _ => rfl
theorem srlL : Statement .srlL := fun _ _ _ => rfl
theorem srlMemHl : Statement .srlMemHl := fun _ _ _ => rfl
theorem srlA : Statement .srlA := fun _ _ _ => rfl
theorem bit0B : Statement .bit0B := fun _ _ _ => rfl
theorem bit0C : Statement .bit0C := fun _ _ _ => rfl
theorem bit0D : Statement .bit0D := fun _ _ _ => rfl
theorem bit0E : Statement .bit0E := fun _ _ _ => rfl
theorem bit0H : Statement .bit0H := fun _ _ _ => rfl
theorem bit0L : Statement .bit0L := fun _ _ _ => rfl
theorem bit0MemHl : Statement .bit0MemHl := fun _ _ _ => rfl
theorem bit0A : Statement .bit0A := fun _ _ _ => rfl
theorem bit1B : Statement .bit1B := fun _ _ _ => rfl
theorem bit1C : Statement .bit1C := fun _ _ _ => rfl
theorem bit1D : Statement .bit1D := fun _ _ _ => rfl
theorem bit1E : Statement .bit1E := fun _ _ _ => rfl
theorem bit1H : Statement .bit1H := fun _ _ _ => rfl
theorem bit1L : Statement .bit1L := fun _ _ _ => rfl
theorem bit1MemHl : Statement .bit1MemHl := fun _ _ _ => rfl
theorem bit1A : Statement .bit1A := fun _ _ _ => rfl
theorem bit2B : Statement .bit2B := fun _ _ _ => rfl
theorem bit2C : Statement .bit2C := fun _ _ _ => rfl
theorem bit2D : Statement .bit2D := fun _ _ _ => rfl
theorem bit2E : Statement .bit2E := fun _ _ _ => rfl
theorem bit2H : Statement .bit2H := fun _ _ _ => rfl
theorem bit2L : Statement .bit2L := fun _ _ _ => rfl
theorem bit2MemHl : Statement .bit2MemHl := fun _ _ _ => rfl
theorem bit2A : Statement .bit2A := fun _ _ _ => rfl
theorem bit3B : Statement .bit3B := fun _ _ _ => rfl
theorem bit3C : Statement .bit3C := fun _ _ _ => rfl
theorem bit3D : Statement .bit3D := fun _ _ _ => rfl
theorem bit3E : Statement .bit3E := fun _ _ _ => rfl
theorem bit3H : Statement .bit3H := fun _ _ _ => rfl
theorem bit3L : Statement .bit3L := fun _ _ _ => rfl
theorem bit3MemHl : Statement .bit3MemHl := fun _ _ _ => rfl
theorem bit3A : Statement .bit3A := fun _ _ _ => rfl
theorem bit4B : Statement .bit4B := fun _ _ _ => rfl
theorem bit4C : Statement .bit4C := fun _ _ _ => rfl
theorem bit4D : Statement .bit4D := fun _ _ _ => rfl
theorem bit4E : Statement .bit4E := fun _ _ _ => rfl
theorem bit4H : Statement .bit4H := fun _ _ _ => rfl
theorem bit4L : Statement .bit4L := fun _ _ _ => rfl
theorem bit4MemHl : Statement .bit4MemHl := fun _ _ _ => rfl
theorem bit4A : Statement .bit4A := fun _ _ _ => rfl
theorem bit5B : Statement .bit5B := fun _ _ _ => rfl
theorem bit5C : Statement .bit5C := fun _ _ _ => rfl
theorem bit5D : Statement .bit5D := fun _ _ _ => rfl
theorem bit5E : Statement .bit5E := fun _ _ _ => rfl
theorem bit5H : Statement .bit5H := fun _ _ _ => rfl
theorem bit5L : Statement .bit5L := fun _ _ _ => rfl
theorem bit5MemHl : Statement .bit5MemHl := fun _ _ _ => rfl
theorem bit5A : Statement .bit5A := fun _ _ _ => rfl
theorem bit6B : Statement .bit6B := fun _ _ _ => rfl
theorem bit6C : Statement .bit6C := fun _ _ _ => rfl
theorem bit6D : Statement .bit6D := fun _ _ _ => rfl
theorem bit6E : Statement .bit6E := fun _ _ _ => rfl
theorem bit6H : Statement .bit6H := fun _ _ _ => rfl
theorem bit6L : Statement .bit6L := fun _ _ _ => rfl
theorem bit6MemHl : Statement .bit6MemHl := fun _ _ _ => rfl
theorem bit6A : Statement .bit6A := fun _ _ _ => rfl
theorem bit7B : Statement .bit7B := fun _ _ _ => rfl
theorem bit7C : Statement .bit7C := fun _ _ _ => rfl
theorem bit7D : Statement .bit7D := fun _ _ _ => rfl
theorem bit7E : Statement .bit7E := fun _ _ _ => rfl
theorem bit7H : Statement .bit7H := fun _ _ _ => rfl
theorem bit7L : Statement .bit7L := fun _ _ _ => rfl
theorem bit7MemHl : Statement .bit7MemHl := fun _ _ _ => rfl
theorem bit7A : Statement .bit7A := fun _ _ _ => rfl
theorem res0B : Statement .res0B := fun _ _ _ => rfl
theorem res0C : Statement .res0C := fun _ _ _ => rfl
theorem res0D : Statement .res0D := fun _ _ _ => rfl
theorem res0E : Statement .res0E := fun _ _ _ => rfl
theorem res0H : Statement .res0H := fun _ _ _ => rfl
theorem res0L : Statement .res0L := fun _ _ _ => rfl
theorem res0MemHl : Statement .res0MemHl := fun _ _ _ => rfl
theorem res0A : Statement .res0A := fun _ _ _ => rfl
theorem res1B : Statement .res1B := fun _ _ _ => rfl
theorem res1C : Statement .res1C := fun _ _ _ => rfl
theorem res1D : Statement .res1D := fun _ _ _ => rfl
theorem res1E : Statement .res1E := fun _ _ _ => rfl
theorem res1H : Statement .res1H := fun _ _ _ => rfl
theorem res1L : Statement .res1L := fun _ _ _ => rfl
theorem res1MemHl : Statement .res1MemHl := fun _ _ _ => rfl
theorem res1A : Statement .res1A := fun _ _ _ => rfl
theorem res2B : Statement .res2B := fun _ _ _ => rfl
theorem res2C : Statement .res2C := fun _ _ _ => rfl
theorem res2D : Statement .res2D := fun _ _ _ => rfl
theorem res2E : Statement .res2E := fun _ _ _ => rfl
theorem res2H : Statement .res2H := fun _ _ _ => rfl
theorem res2L : Statement .res2L := fun _ _ _ => rfl
theorem res2MemHl : Statement .res2MemHl := fun _ _ _ => rfl
theorem res2A : Statement .res2A := fun _ _ _ => rfl
theorem res3B : Statement .res3B := fun _ _ _ => rfl
theorem res3C : Statement .res3C := fun _ _ _ => rfl
theorem res3D : Statement .res3D := fun _ _ _ => rfl
theorem res3E : Statement .res3E := fun _ _ _ => rfl
theorem res3H : Statement .res3H := fun _ _ _ => rfl
theorem res3L : Statement .res3L := fun _ _ _ => rfl
theorem res3MemHl : Statement .res3MemHl := fun _ _ _ => rfl
theorem res3A : Statement .res3A := fun _ _ _ => rfl
theorem res4B : Statement .res4B := fun _ _ _ => rfl
theorem res4C : Statement .res4C := fun _ _ _ => rfl
theorem res4D : Statement .res4D := fun _ _ _ => rfl
theorem res4E : Statement .res4E := fun _ _ _ => rfl
theorem res4H : Statement .res4H := fun _ _ _ => rfl
theorem res4L : Statement .res4L := fun _ _ _ => rfl
theorem res4MemHl : Statement .res4MemHl := fun _ _ _ => rfl
theorem res4A : Statement .res4A := fun _ _ _ => rfl
theorem res5B : Statement .res5B := fun _ _ _ => rfl
theorem res5C : Statement .res5C := fun _ _ _ => rfl
theorem res5D : Statement .res5D := fun _ _ _ => rfl
theorem res5E : Statement .res5E := fun _ _ _ => rfl
theorem res5H : Statement .res5H := fun _ _ _ => rfl
theorem res5L : Statement .res5L := fun _ _ _ => rfl
theorem res5MemHl : Statement .res5MemHl := fun _ _ _ => rfl
theorem res5A : Statement .res5A := fun _ _ _ => rfl
theorem res6B : Statement .res6B := fun _ _ _ => rfl
theorem res6C : Statement .res6C := fun _ _ _ => rfl
theorem res6D : Statement .res6D := fun _ _ _ => rfl
theorem res6E : Statement .res6E := fun _ _ _ => rfl
theorem res6H : Statement .res6H := fun _ _ _ => rfl
theorem res6L : Statement .res6L := fun _ _ _ => rfl
theorem res6MemHl : Statement .res6MemHl := fun _ _ _ => rfl
theorem res6A : Statement .res6A := fun _ _ _ => rfl
theorem res7B : Statement .res7B := fun _ _ _ => rfl
theorem res7C : Statement .res7C := fun _ _ _ => rfl
theorem res7D : Statement .res7D := fun _ _ _ => rfl
theorem res7E : Statement .res7E := fun _ _ _ => rfl
theorem res7H : Statement .res7H := fun _ _ _ => rfl
theorem res7L : Statement .res7L := fun _ _ _ => rfl
theorem res7MemHl : Statement .res7MemHl := fun _ _ _ => rfl
theorem res7A : Statement .res7A := fun _ _ _ => rfl
theorem set0B : Statement .set0B := fun _ _ _ => rfl
theorem set0C : Statement .set0C := fun _ _ _ => rfl
theorem set0D : Statement .set0D := fun _ _ _ => rfl
theorem set0E : Statement .set0E := fun _ _ _ => rfl
theorem set0H : Statement .set0H := fun _ _ _ => rfl
theorem set0L : Statement .set0L := fun _ _ _ => rfl
theorem set0MemHl : Statement .set0MemHl := fun _ _ _ => rfl
theorem set0A : Statement .set0A := fun _ _ _ => rfl
theorem set1B : Statement .set1B := fun _ _ _ => rfl
theorem set1C : Statement .set1C := fun _ _ _ => rfl
theorem set1D : Statement .set1D := fun _ _ _ => rfl
theorem set1E : Statement .set1E := fun _ _ _ => rfl
theorem set1H : Statement .set1H := fun _ _ _ => rfl
theorem set1L : Statement .set1L := fun _ _ _ => rfl
theorem set1MemHl : Statement .set1MemHl := fun _ _ _ => rfl
theorem set1A : Statement .set1A := fun _ _ _ => rfl
theorem set2B : Statement .set2B := fun _ _ _ => rfl
theorem set2C : Statement .set2C := fun _ _ _ => rfl
theorem set2D : Statement .set2D := fun _ _ _ => rfl
theorem set2E : Statement .set2E := fun _ _ _ => rfl
theorem set2H : Statement .set2H := fun _ _ _ => rfl
theorem set2L : Statement .set2L := fun _ _ _ => rfl
theorem set2MemHl : Statement .set2MemHl := fun _ _ _ => rfl
theorem set2A : Statement .set2A := fun _ _ _ => rfl
theorem set3B : Statement .set3B := fun _ _ _ => rfl
theorem set3C : Statement .set3C := fun _ _ _ => rfl
theorem set3D : Statement .set3D := fun _ _ _ => rfl
theorem set3E : Statement .set3E := fun _ _ _ => rfl
theorem set3H : Statement .set3H := fun _ _ _ => rfl
theorem set3L : Statement .set3L := fun _ _ _ => rfl
theorem set3MemHl : Statement .set3MemHl := fun _ _ _ => rfl
theorem set3A : Statement .set3A := fun _ _ _ => rfl
theorem set4B : Statement .set4B := fun _ _ _ => rfl
theorem set4C : Statement .set4C := fun _ _ _ => rfl
theorem set4D : Statement .set4D := fun _ _ _ => rfl
theorem set4E : Statement .set4E := fun _ _ _ => rfl
theorem set4H : Statement .set4H := fun _ _ _ => rfl
theorem set4L : Statement .set4L := fun _ _ _ => rfl
theorem set4MemHl : Statement .set4MemHl := fun _ _ _ => rfl
theorem set4A : Statement .set4A := fun _ _ _ => rfl
theorem set5B : Statement .set5B := fun _ _ _ => rfl
theorem set5C : Statement .set5C := fun _ _ _ => rfl
theorem set5D : Statement .set5D := fun _ _ _ => rfl
theorem set5E : Statement .set5E := fun _ _ _ => rfl
theorem set5H : Statement .set5H := fun _ _ _ => rfl
theorem set5L : Statement .set5L := fun _ _ _ => rfl
theorem set5MemHl : Statement .set5MemHl := fun _ _ _ => rfl
theorem set5A : Statement .set5A := fun _ _ _ => rfl
theorem set6B : Statement .set6B := fun _ _ _ => rfl
theorem set6C : Statement .set6C := fun _ _ _ => rfl
theorem set6D : Statement .set6D := fun _ _ _ => rfl
theorem set6E : Statement .set6E := fun _ _ _ => rfl
theorem set6H : Statement .set6H := fun _ _ _ => rfl
theorem set6L : Statement .set6L := fun _ _ _ => rfl
theorem set6MemHl : Statement .set6MemHl := fun _ _ _ => rfl
theorem set6A : Statement .set6A := fun _ _ _ => rfl
theorem set7B : Statement .set7B := fun _ _ _ => rfl
theorem set7C : Statement .set7C := fun _ _ _ => rfl
theorem set7D : Statement .set7D := fun _ _ _ => rfl
theorem set7E : Statement .set7E := fun _ _ _ => rfl
theorem set7H : Statement .set7H := fun _ _ _ => rfl
theorem set7L : Statement .set7L := fun _ _ _ => rfl
theorem set7MemHl : Statement .set7MemHl := fun _ _ _ => rfl
theorem set7A : Statement .set7A := fun _ _ _ => rfl

end Sys2Proof.Laws.RoundTrip
end

