-- ==== Sys2Proof/Laws/Rows.lean ====
section
/-! SUPPORT. The decoder and the dispatch together: what executing the row that some bytes select does, said once in terms
of those bytes (`spec/42_decoder_top.md` R170). -/

namespace Sys2Proof

/-! ## Case splits over fields -/

theorem bitVec2_cases : ∀ p : BitVec 2, p = 0#2 ∨ p = 1#2 ∨ p = 2#2 ∨ p = 3#2 := by decide

theorem bitVec3_cases : ∀ y : BitVec 3,
    y = 0#3 ∨ y = 1#3 ∨ y = 2#3 ∨ y = 3#3 ∨ y = 4#3 ∨ y = 5#3 ∨ y = 6#3 ∨ y = 7#3 := by decide

/-- A byte is its fields `x`, `y`, `z` (`spec/30_encoding.md` R82). -/
theorem byte_eq_fields : ∀ b : Byte, b = (fieldX b ++ fieldY b ++ fieldZ b : BitVec 8) := by decide

/-- The signed reading of a byte is its two's-complement reading. -/
theorem sint8_eq_toInt : ∀ b : Byte, sint8 b = b.toInt := by decide

/-- A little-endian pair is the second byte set before the first. -/
theorem le16_eq_append (b0 b1 : Byte) : le16 b0 b1 = (b1 ++ b0 : BitVec 16) := by
  apply BitVec.eq_of_toNat_eq
  have := b0.isLt
  rw [le16_toNat, BitVec.toNat_append, Nat.shiftLeft_eq, Nat.mul_comm b1.toNat, ← Nat.two_pow_add_eq_or_of_lt this]
  omega

namespace Machine

/-- The class a defined primary byte returns with its operand bytes (`PRIMARY` of R170). -/
def primaryClass (b0 b1 b2 : Byte) : Instruction :=
  match formatOf b0 with
  | .opD8 => immediateClass b0 b1
  | .opA8 => highPageClass b0 b1
  | .opE8 => offsetClass b0 (sint8 b1)
  | .opD16 => wideImmediateClass b0 (le16 b1 b2)
  | .opA16 => addressClass b0 (le16 b1 b2)
  | .op | .cbOp | .esc | .undef => plainClass b0

/-- The row of a defined primary byte returns the byte's class and consumes the byte and its operands. -/
theorem exec_primaryRow {b0 : Byte} (hb : b0 ≠ escapeByte) (hu : b0 ∉ undefinedBytes) (b1 b2 : Byte) (s : State) :
    exec (primaryRow b0 b1 b2) s = .next (s.yield (primaryClass b0 b1 b2) (1 + operandWidth b0)) := by
  rw [byte_eq_fields b0] at hb hu ⊢
  generalize fieldX b0 = x at *
  generalize fieldY b0 = y at *
  generalize fieldZ b0 = z at *
  rcases bitVec2_cases x with rfl | rfl | rfl | rfl <;>
    rcases bitVec3_cases y with rfl | rfl | rfl | rfl | rfl | rfl | rfl | rfl <;>
      rcases bitVec3_cases z with rfl | rfl | rfl | rfl | rfl | rfl | rfl | rfl <;>
        first
          | rfl
          | exact absurd (by decide) hu
          | exact absurd (by decide) hb

theorem primaryRow_wf {b0 : Byte} (hb : b0 ≠ escapeByte) (hu : b0 ∉ undefinedBytes) (b1 b2 : Byte) :
    (primaryRow b0 b1 b2).wf = true := by
  rw [byte_eq_fields b0] at hb hu ⊢
  generalize fieldX b0 = x at *
  generalize fieldY b0 = y at *
  generalize fieldZ b0 = z at *
  rcases bitVec2_cases x with rfl | rfl | rfl | rfl <;>
    rcases bitVec3_cases y with rfl | rfl | rfl | rfl | rfl | rfl | rfl | rfl <;>
      rcases bitVec3_cases z with rfl | rfl | rfl | rfl | rfl | rfl | rfl | rfl <;>
        first
          | rfl
          | exact signedByteRange_sint8 b1

/-- The row of an escape form returns its entry of the extended table and consumes two bytes (R173). -/
theorem exec_extendedRow (b1 : Byte) (s : State) :
    exec (extendedRow b1) s = .next (s.yield (extendedEntry b1) 2) := by
  rw [byte_eq_fields b1]
  generalize fieldX b1 = x
  generalize fieldY b1 = y
  generalize fieldZ b1 = z
  rcases bitVec2_cases x with rfl | rfl | rfl | rfl <;>
    rcases bitVec3_cases y with rfl | rfl | rfl | rfl | rfl | rfl | rfl | rfl <;>
      rcases bitVec3_cases z with rfl | rfl | rfl | rfl | rfl | rfl | rfl | rfl <;> rfl

theorem extendedRow_wf : ∀ b1 : Byte, (extendedRow b1).wf = true := by decide

/-- Everything the decoder can answer. -/
theorem decode_ok_cases {bs : List Byte} {i : Instr} {n : Nat} (h : decode bs = .ok (i, n)) :
    (bs = [escapeByte] ∧ i = .prefixCb ∧ n = 1) ∨
    (∃ b1 rest, bs = escapeByte :: b1 :: rest ∧ i = extendedRow b1 ∧ n = 2) ∨
    (∃ b0 rest, bs = b0 :: rest ∧ b0 ∈ undefinedBytes ∧ i = .undefined b0 ∧ n = 1) ∨
    (∃ b0 b1 b2 rest, bs = b0 :: rest ∧ b0 ≠ escapeByte ∧ b0 ∉ undefinedBytes ∧ operandWidth b0 ≤ rest.length ∧
      i = primaryRow b0 b1 b2 ∧ n = 1 + operandWidth b0) := by
  cases bs with
  | nil => simp [decode_nil] at h
  | cons b0 rest =>
    by_cases hb : b0 = escapeByte
    · subst hb
      cases rest with
      | nil =>
        rw [decode_escape_alone] at h
        cases h
        exact .inl ⟨rfl, rfl, rfl⟩
      | cons b1 rest =>
        rw [decode_escape] at h
        cases h
        exact .inr (.inl ⟨b1, rest, rfl, rfl, rfl⟩)
    · by_cases hu : b0 ∈ undefinedBytes
      · rw [decode_undefined hu] at h
        cases h
        exact .inr (.inr (.inl ⟨b0, rest, rfl, hu, rfl, rfl⟩))
      · rw [decode_defined hb hu] at h
        rcases Nat.lt_or_ge rest.length (operandWidth b0) with hs | hl
        · simp [decodeDefined_short hs] at h
        · obtain ⟨b1, b2, h'⟩ := decodeDefined_long hl
          rw [h'] at h
          cases h
          exact .inr (.inr (.inr ⟨b0, b1, b2, rest, rfl, hb, hu, hl, rfl, rfl⟩))

/-- The decoder answers only well-formed rows. -/
theorem decode_wf {bs : List Byte} {i : Instr} {n : Nat} (h : decode bs = .ok (i, n)) : i.wf = true := by
  rcases decode_ok_cases h with ⟨-, rfl, -⟩ | ⟨b1, -, -, rfl, -⟩ | ⟨b0, -, -, hu, rfl, -⟩ |
    ⟨b0, b1, b2, -, -, hb, hu, -, rfl, -⟩
  · rfl
  · exact extendedRow_wf b1
  · exact List.contains_iff_mem.mpr hu
  · exact primaryRow_wf hb hu b1 b2

/-- A run of the decoder at the offset the operation being served fetches from: it yields a well-formed instruction that
lies below `LEN`, or takes a decode failure. It always answers a next state. -/
theorem runAt_cases {s : State} {off : Nat} (hf : s.fetchOffset = off) :
    (∃ v n, runAt off s = .next (s.yield v n) ∧ v.wf = true ∧ 1 ≤ n ∧ n ≤ 3 ∧ off + n ≤ s.len) ∨
    (∃ e, runAt off s = .next (s.raise e) ∧ isDecodeFailure e = true) := by
  have hw := s.window_length off
  cases hd : decode (s.window off) with
  | error e => exact .inr ⟨e, by simp [runAt, hd], by rw [decode_error hd]; rfl⟩
  | ok a =>
    obtain ⟨i, n⟩ := a
    have hr : runAt off s = exec i s := by simp [runAt, hd]
    rw [hr]
    have hwf := decode_wf hd
    rcases decode_ok_cases hd with ⟨hbs, rfl, -⟩ | ⟨b1, rest, hbs, rfl, -⟩ | ⟨b0, -, -, -, rfl, -⟩ |
      ⟨b0, b1, b2, rest, hbs, hb, hu, hl, rfl, -⟩
    · refine .inr ⟨.outOfData, ?_, rfl⟩
      rw [hbs] at hw
      have : s.len ≤ off + 1 := by simp at hw; omega
      simp [exec, execPrefixCb, hf, State.byteAt_of_le this]
    · refine .inl ⟨_, _, exec_extendedRow b1 s, extendedEntry_wf b1, by omega, by omega, ?_⟩
      rw [hbs] at hw
      simp at hw
      omega
    · exact .inr ⟨_, rfl, hwf⟩
    · refine .inl ⟨_, _, exec_primaryRow hb hu b1 b2 s, ?_, by omega, by have := operandWidth_le b0; omega, ?_⟩
      · have hx := exec_primaryRow hb hu b1 b2 s
        obtain ⟨v, k, h1, -, -, h2⟩ | ⟨e, h1, -⟩ := exec_cases (primaryRow b0 b1 b2) { s with op := .direct 0 }
        · rw [exec_primaryRow hb hu b1 b2] at h1
          have h3 := h2 hwf
          simp [State.yield, State.respond] at h1
          rw [h1.1]
          exact h3
        · rw [exec_primaryRow hb hu b1 b2] at h1
          simp [State.yield, State.raise, State.respond] at h1
      · rw [hbs] at hw
        simp at hw
        omega

end Machine

end Sys2Proof
end

