-- ==== Sys2Proof/Laws/Step.lean ====
section
/-! SUPPORT. What a step can do, said once: the six requests, and the shape of everything the header operations return. -/

namespace Sys2Proof.Machine

open Sys2Proof

/-! ## The header operations -/

/-- The free assignment is complete exactly when every code is some byte's. -/
theorem cartCodesComplete_iff : cartCodesComplete = true ↔ ∀ k : Fin 25, ∃ b : Byte, Config.cartCode b = some k := by
  rw [cartCodesComplete]
  simp only [List.all_eq_true, List.mem_finRange, List.any_eq_true, beq_iff_eq, true_and, forall_const]
  refine forall_congr' fun k => ⟨fun ⟨n, h⟩ => ⟨_, h⟩, fun ⟨b, h⟩ => ⟨b.toFin, h⟩⟩

/-- Where the free assignment reaches all 25 codes it is the assignment of names. -/
theorem cartCodeOf_free (h : cartCodesComplete = true) (b : Byte) : cartCodeOf b = Config.cartCode b := by
  simp [cartCodeOf, h]

/-- Where it does not, byte `k` has code `k`. -/
theorem cartCodeOf_fallback (h : cartCodesComplete = false) {b : Byte} (hb : b.toNat < 25) :
    cartCodeOf b = some ⟨b.toNat, hb⟩ := by simp [cartCodeOf, h, hb]

theorem cartName_named {b : Byte} {k : Fin 25} (h : cartCodeOf b = some k) : cartName b = .named k := by
  simp [cartName, h]

theorem cartName_other {b : Byte} (h : cartCodeOf b = none) : cartName b = .other b := by simp [cartName, h]

theorem State.memRead_cases (s : State) (addr n : Nat) :
    (s.memRead addr n = .ok (s.bytesFrom addr n) ∧ addr + n ≤ s.len) ∨
      (s.memRead addr n = .error .outOfData ∧ s.len < addr + n) := by
  rcases Nat.lt_or_ge s.len (addr + n) with h | h
  · exact .inr ⟨State.memRead_error h, h⟩
  · exact .inl ⟨State.memRead_ok h, h⟩

theorem romBanksOf_cases (b : Byte) :
    (∃ n, romBanksOf b = .ok n) ∨ (romBanksOf b = .error (.unknownRomSize b) ∧ isHeaderFailure (.unknownRomSize b) = true) := by
  cases h : romBankTable.lookup b with
  | some n => exact .inl ⟨n, by simp [romBanksOf, h]⟩
  | none => exact .inr ⟨by simp [romBanksOf, h], by simp [isHeaderFailure, h]⟩

theorem ramGeomOf_cases (b : Byte) :
    (∃ g, ramGeomOf b = .ok g) ∨ (ramGeomOf b = .error (.unknownRamSize b) ∧ isHeaderFailure (.unknownRamSize b) = true) := by
  cases h : ramGeomTable.lookup b with
  | some g => exact .inl ⟨g, by simp [ramGeomOf, h]⟩
  | none => exact .inr ⟨by simp [ramGeomOf, h], by simp [isHeaderFailure, h]⟩

/-- Peel one computation off a chain: its value, and the rest of the chain on it. -/
theorem bind_ok {α β : Type} {x : Except Error α} {f : α → Except Error β} {b : β} (h : (x >>= f) = .ok b) :
    ∃ a, x = .ok a ∧ f a = .ok b := by
  cases x with
  | error e => cases h
  | ok a => exact ⟨a, rfl, h⟩

/-- Peel one computation off a failed chain: it failed, or it did not and the rest did. -/
theorem bind_error {α β : Type} {x : Except Error α} {f : α → Except Error β} {e : Error} (h : (x >>= f) = .error e) :
    x = .error e ∨ ∃ a, x = .ok a ∧ f a = .error e := by
  cases x with
  | error e' => exact .inl (by cases h; rfl)
  | ok a => exact .inr ⟨a, rfl, h⟩

theorem State.readU8_fails {s : State} {p : Nat} {e : Error} (h : s.readU8 p = .error e) : e = .outOfData := by
  rcases Nat.lt_or_ge p s.len with hp | hp
  · simp [State.readU8_ok hp] at h
  · simpa [State.readU8_error hp] using h.symm

theorem State.readU16_fails {s : State} {p : Nat} {o : ByteOrder} {e : Error} (h : s.readU16 p o = .error e) :
    e = .outOfData := by
  rcases Nat.lt_or_ge s.len (p + 2) with hp | hp
  · simpa [State.readU16_error hp] using h.symm
  · simp [State.readU16_ok hp] at h

theorem State.readBytes_fails {s : State} {p n : Nat} {e : Error} (h : s.readBytes p n = .error e) : e = .outOfData := by
  rcases Nat.lt_or_ge s.len (p + n) with hp | hp
  · simpa [State.readBytes_error hp] using h.symm
  · simp [State.readBytes_ok hp] at h

theorem State.skip_fails {s : State} {p n : Nat} {e : Error} (h : s.skip p n = .error e) : e = .outOfData := by
  rcases Nat.lt_or_ge s.len (p + n) with hp | hp
  · simpa [State.skip_error hp] using h.symm
  · simp [State.skip_ok hp] at h

theorem State.readText_fails {s : State} {p n : Nat} {e : Error} (h : s.readText p n = .error e) :
    e = .outOfData ∨ e = .invalidText := by
  rcases Nat.lt_or_ge s.len (p + n) with hp | hp
  · exact .inl (by simpa [State.readText_error hp] using h.symm)
  · cases ht : textValid (s.bytesFrom p n) with
    | true => simp [State.readText_ok hp ht] at h
    | false => exact .inr (by simpa [State.readText_invalid hp ht] using h.symm)

/-- Every failure of the parser is one of its row in `spec/60_exceptions.md` R347. -/
theorem State.parseHeader_error {s : State} {e : Error} (h : s.parseHeader = .error e) : isHeaderFailure e = true := by
  unfold State.parseHeader at h
  rcases bind_error h with h | ⟨_, -, h⟩
  · rw [State.skip_fails h]; rfl
  rcases bind_error h with h | ⟨⟨_, _⟩, -, h⟩
  · rw [State.readBytes_fails h]; rfl
  rcases bind_error h with h | ⟨⟨_, _⟩, -, h⟩
  · rcases State.readText_fails h with rfl | rfl <;> rfl
  rcases bind_error h with h | ⟨⟨_, _⟩, -, h⟩
  · rw [State.readU8_fails h]; rfl
  rcases bind_error h with h | ⟨⟨_, _⟩, -, h⟩
  · rw [State.readBytes_fails h]; rfl
  rcases bind_error h with h | ⟨⟨_, _⟩, -, h⟩
  · rw [State.readU8_fails h]; rfl
  rcases bind_error h with h | ⟨⟨_, _⟩, -, h⟩
  · rw [State.readU8_fails h]; rfl
  rcases bind_error h with h | ⟨⟨rb, _⟩, -, h⟩
  · rw [State.readU8_fails h]; rfl
  rcases bind_error h with h | ⟨_, -, h⟩
  · rcases romBanksOf_cases rb with ⟨_, h'⟩ | ⟨h', hk⟩
    · rw [h'] at h; cases h
    · rw [h'] at h; cases h; exact hk
  rcases bind_error h with h | ⟨⟨mb, _⟩, -, h⟩
  · rw [State.readU8_fails h]; rfl
  rcases bind_error h with h | ⟨⟨_, _⟩, -, h⟩
  · rcases ramGeomOf_cases mb with ⟨_, h'⟩ | ⟨h', hk⟩
    · rw [h'] at h; cases h
    · rw [h'] at h; cases h; exact hk
  rcases bind_error h with h | ⟨⟨_, _⟩, -, h⟩
  · rw [State.readU8_fails h]; rfl
  rcases bind_error h with h | ⟨⟨_, _⟩, -, h⟩
  · rw [State.readU8_fails h]; rfl
  rcases bind_error h with h | ⟨⟨_, _⟩, -, h⟩
  · rw [State.readU8_fails h]; rfl
  rcases bind_error h with h | ⟨⟨_, _⟩, -, h⟩
  · rw [State.readU8_fails h]; rfl
  rcases bind_error h with h | ⟨⟨_, _⟩, -, h⟩
  · rw [State.readU16_fails h]; rfl
  cases h

theorem State.readBytes_length {s : State} {p n : Nat} {bs : List Byte} {q : Nat} (h : s.readBytes p n = .ok (bs, q)) :
    bs.length = n := by
  rcases Nat.lt_or_ge s.len (p + n) with hp | hp
  · simp [State.readBytes_error hp] at h
  · simp [State.readBytes_ok hp] at h
    simp [← h.1]

theorem State.readText_shape {s : State} {p n : Nat} {bs : List Byte} {q : Nat} (h : s.readText p n = .ok (bs, q)) :
    bs.length = n ∧ textValid bs = true := by
  rcases Nat.lt_or_ge s.len (p + n) with hp | hp
  · simp [State.readText_error hp] at h
  · cases ht : textValid (s.bytesFrom p n) with
    | true =>
      simp [State.readText_ok hp ht] at h
      simp [← h.1, ht]
    | false => simp [State.readText_invalid hp ht] at h

/-- A parsed record has the shape of `spec/10_state.md` R34. -/
theorem State.parseHeader_wf {s : State} {r : HeaderRecord} (h : s.parseHeader = .ok r) : headerWf r = true := by
  unfold State.parseHeader at h
  obtain ⟨_, -, h⟩ := bind_ok h
  obtain ⟨⟨_, _⟩, hf, h⟩ := bind_ok h
  obtain ⟨⟨_, _⟩, ht, h⟩ := bind_ok h
  obtain ⟨⟨_, _⟩, -, h⟩ := bind_ok h
  obtain ⟨⟨_, _⟩, hn, h⟩ := bind_ok h
  obtain ⟨⟨_, _⟩, -, h⟩ := bind_ok h
  obtain ⟨⟨_, _⟩, -, h⟩ := bind_ok h
  obtain ⟨⟨_, _⟩, -, h⟩ := bind_ok h
  obtain ⟨_, -, h⟩ := bind_ok h
  obtain ⟨⟨_, _⟩, -, h⟩ := bind_ok h
  obtain ⟨⟨_, _⟩, -, h⟩ := bind_ok h
  obtain ⟨⟨_, _⟩, -, h⟩ := bind_ok h
  obtain ⟨⟨_, _⟩, -, h⟩ := bind_ok h
  obtain ⟨⟨_, _⟩, -, h⟩ := bind_ok h
  obtain ⟨⟨_, _⟩, -, h⟩ := bind_ok h
  obtain ⟨⟨_, _⟩, -, h⟩ := bind_ok h
  cases h
  simp [headerWf, State.readBytes_length hf, State.readText_shape ht, State.readBytes_length hn]

/-! ## The requests -/

theorem step_idle {s : State} (h : s.requests = []) : step s = .next s := by simp [step, h]

theorem step_request {s : State} {r : Request} {rest : List Request} (h : s.requests = r :: rest) :
    step s = serve r { s with requests := rest } := by simp [step, h]

/-- `PARSE_HEADER` returns a record or a failure of the proper shape, and writes nothing else. -/
theorem serve_parseHeader (s : State) :
    ∃ r, serve .parseHeader s = .next (s.respond r) ∧ responseWf r = true := by
  cases h : s.parseHeader with
  | ok a => exact ⟨.headerOk a, by simp [serve, serveParseHeader, h], State.parseHeader_wf h⟩
  | error e => exact ⟨.headerErr e, by simp [serve, serveParseHeader, h], State.parseHeader_error h⟩

/-- `VALIDATE` returns a verdict and writes nothing else. -/
theorem serve_validate (h : HeaderRecord) (s : State) :
    ∃ r, serve (.validate h) s = .next (s.respond r) ∧ responseWf r = true := by
  cases hv : validate h with
  | none => exact ⟨.valid, by simp [serve, serveValidate, hv], rfl⟩
  | some v => exact ⟨.invalid v, by simp [serve, serveValidate, hv], rfl⟩

/-- `DECODE` returns an instruction or a decode failure of the proper shape, and writes nothing else of the cursor. -/
theorem serve_decode (off : Nat) (s : State) :
    ∃ r, serve (.decode off) s = .next ({ s with op := .direct off }.respond r) ∧ responseWf r = true := by
  have hop : ({ s with op := .direct off } : State).op = .direct off := rfl
  obtain ⟨v, n, h, hv, h1, h3, -⟩ | ⟨e, h, he⟩ :=
    runAt_cases (s := { s with op := .direct off }) (off := off) rfl
  · refine ⟨.decodeOk v n, ?_, by simp [responseWf, hv, h1, h3]⟩
    rw [← State.yield_direct hop]
    exact h
  · refine ⟨.decodeErr e, ?_, he⟩
    rw [← State.raise_direct hop]
    exact h

theorem serve_init (start : Nat) (s : State) : serve (.init start) s = .next (s.initCursor start) := rfl

/-- `NEXT` and `NEXT_E` on a cursor never constructed are refused (R322). -/
theorem stepCursor_refused {s : State} (h : s.constructed = false) (op : DecodeOp) (r : Response) :
    stepCursor op r s = .refused .cursorNeverConstructed := by simp [stepCursor, h]

/-- On an exhausted cursor they only answer (R328). -/
theorem stepCursor_exhausted {s : State} (hc : s.constructed = true) (hx : s.st = .exhausted) (op : DecodeOp) (r : Response) :
    stepCursor op r s = .next ({ s with op := op }.respond r) := by simp [stepCursor, hc, State.isExhausted, hx]

/-- On a positioned cursor they decode at `POS` (R323). -/
theorem stepCursor_positioned {s : State} (hc : s.constructed = true) (hp : s.st = .positioned) (op : DecodeOp) (r : Response) :
    stepCursor op r s = runAt s.pos { s with op := op } := by simp [stepCursor, hc, State.isExhausted, hp]

/-- Everything a cursor request can do. -/
theorem stepCursor_cases {op : DecodeOp} (hop : op = .next ∨ op = .nextE) (r : Response) (s : State) :
    (s.constructed = false ∧ stepCursor op r s = .refused .cursorNeverConstructed) ∨
    (s.constructed = true ∧ s.st = .exhausted ∧ stepCursor op r s = .next ({ s with op := op }.respond r)) ∨
    (s.constructed = true ∧ s.st = .positioned ∧ ∃ v n, stepCursor op r s = .next ({ s with op := op }.yield v n) ∧
      v.wf = true ∧ 1 ≤ n ∧ n ≤ 3 ∧ s.pos + n ≤ s.len) ∨
    (s.constructed = true ∧ s.st = .positioned ∧ ∃ e, stepCursor op r s = .next ({ s with op := op }.raise e) ∧
      isDecodeFailure e = true) := by
  rcases Bool.eq_false_or_eq_true s.constructed with hc | hc
  · rcases (by cases s.st <;> simp : s.st = .exhausted ∨ s.st = .positioned) with hs | hs
    · exact .inr (.inl ⟨hc, hs, stepCursor_exhausted hc hs op r⟩)
    · have hf : ({ s with op := op } : State).fetchOffset = s.pos := by rcases hop with rfl | rfl <;> rfl
      rw [stepCursor_positioned hc hs]
      rcases runAt_cases hf with ⟨v, n, h, hv, h1, h3, hl⟩ | ⟨e, h, he⟩
      · exact .inr (.inr (.inl ⟨hc, hs, v, n, h, hv, h1, h3, hl⟩))
      · exact .inr (.inr (.inr ⟨hc, hs, e, h, he⟩))
  · exact .inl ⟨hc, stepCursor_refused hc op r⟩

/-! ## The step -/

/-- Everything a step that answers can do, one case for each operation and outcome. -/
inductive StepCase (s : State) : State → Prop where
  /-- no request pending -/
  | idle (hr : s.requests = []) : StepCase s s
  | headerOk {rest : List Request} {h : HeaderRecord} (hr : s.requests = .parseHeader :: rest) (hw : headerWf h = true) :
      StepCase s ({ s with requests := rest }.respond (.headerOk h))
  | headerErr {rest : List Request} {e : Error} (hr : s.requests = .parseHeader :: rest) (he : isHeaderFailure e = true) :
      StepCase s ({ s with requests := rest }.respond (.headerErr e))
  | valid {rest : List Request} {h : HeaderRecord} (hr : s.requests = .validate h :: rest) (hv : validate h = none) :
      StepCase s ({ s with requests := rest }.respond .valid)
  | invalid {rest : List Request} {h : HeaderRecord} {v : ValidationError} (hr : s.requests = .validate h :: rest)
      (hv : validate h = some v) : StepCase s ({ s with requests := rest }.respond (.invalid v))
  | decodeOk {rest : List Request} {off n : Nat} {v : Instruction} (hr : s.requests = .decode off :: rest)
      (hv : v.wf = true) (h1 : 1 ≤ n) (h3 : n ≤ 3) (hl : off + n ≤ s.len) :
      StepCase s ({ s with requests := rest, op := .direct off }.respond (.decodeOk v n))
  | decodeErr {rest : List Request} {off : Nat} {e : Error} (hr : s.requests = .decode off :: rest)
      (he : isDecodeFailure e = true) :
      StepCase s ({ s with requests := rest, op := .direct off }.respond (.decodeErr e))
  | init {rest : List Request} {start : Nat} (hr : s.requests = .init start :: rest) :
      StepCase s ({ s with requests := rest }.initCursor start)
  | nextExhausted {rest : List Request} (hr : s.requests = .next :: rest) (hc : s.constructed = true)
      (hx : s.st = .exhausted) : StepCase s ({ s with requests := rest, op := .next }.respond .nextNone)
  | nextSome {rest : List Request} {n : Nat} {v : Instruction} (hr : s.requests = .next :: rest) (hc : s.constructed = true)
      (hp : s.st = .positioned) (hv : v.wf = true) (h1 : 1 ≤ n) (h3 : n ≤ 3) (hl : s.pos + n ≤ s.len) :
      StepCase s (({ s with requests := rest, op := .next }.advance n).respond (.nextSome v))
  | nextNone {rest : List Request} {e : Error} (hr : s.requests = .next :: rest) (hc : s.constructed = true)
      (hp : s.st = .positioned) (he : isDecodeFailure e = true) :
      StepCase s (({ s with requests := rest, op := .next }.setExhausted e).respond .nextNone)
  | nextEExhausted {rest : List Request} (hr : s.requests = .nextE :: rest) (hc : s.constructed = true)
      (hx : s.st = .exhausted) : StepCase s ({ s with requests := rest, op := .nextE }.respond (.ended s.cause))
  | item {rest : List Request} {n : Nat} {v : Instruction} (hr : s.requests = .nextE :: rest) (hc : s.constructed = true)
      (hp : s.st = .positioned) (hv : v.wf = true) (h1 : 1 ≤ n) (h3 : n ≤ 3) (hl : s.pos + n ≤ s.len) :
      StepCase s (({ s with requests := rest, op := .nextE }.advance n).respond (.item v))
  | ended {rest : List Request} {e : Error} (hr : s.requests = .nextE :: rest) (hc : s.constructed = true)
      (hp : s.st = .positioned) (he : isDecodeFailure e = true) :
      StepCase s (({ s with requests := rest, op := .nextE }.setExhausted e).respond (.ended e))

/-- A step that answers is one of the cases of `StepCase`. -/
theorem step_cases {s t : State} (h : step s = .next t) : StepCase s t := by
  match hr : s.requests with
  | [] =>
    rw [step_idle hr] at h
    cases h
    exact .idle hr
  | .parseHeader :: rest =>
    rw [step_request hr] at h
    simp only [serve, serveParseHeader] at h
    split at h <;> rename_i hp <;> cases h
    · exact .headerOk hr (State.parseHeader_wf hp)
    · exact .headerErr hr (State.parseHeader_error hp)
  | .validate r :: rest =>
    rw [step_request hr] at h
    simp only [serve, serveValidate] at h
    split at h <;> rename_i hv <;> cases h
    · exact .valid hr hv
    · exact .invalid hr hv
  | .decode off :: rest =>
    rw [step_request hr] at h
    rcases runAt_cases (s := { s with requests := rest, op := .direct off }) (off := off) rfl with
      ⟨v, n, hd, hv, h1, h3, hl⟩ | ⟨e, hd, he⟩ <;> cases hd.symm.trans h
    · exact .decodeOk hr hv h1 h3 hl
    · exact .decodeErr hr he
  | .init start :: rest =>
    rw [step_request hr, serve_init] at h
    cases h
    exact .init hr
  | .next :: rest =>
    rw [step_request hr] at h
    rcases stepCursor_cases (.inl rfl) .nextNone { s with requests := rest } with
      ⟨-, hd⟩ | ⟨hc, hx, hd⟩ | ⟨hc, hp, v, n, hd, hv, h1, h3, hl⟩ | ⟨hc, hp, e, hd, he⟩ <;> cases hd.symm.trans h
    · exact .nextExhausted hr hc hx
    · exact .nextSome hr hc hp hv h1 h3 hl
    · exact .nextNone hr hc hp he
  | .nextE :: rest =>
    rw [step_request hr] at h
    rcases stepCursor_cases (.inr rfl) (.ended s.cause) { s with requests := rest } with
      ⟨-, hd⟩ | ⟨hc, hx, hd⟩ | ⟨hc, hp, v, n, hd, hv, h1, h3, hl⟩ | ⟨hc, hp, e, hd, he⟩ <;> cases hd.symm.trans h
    · exact .nextEExhausted hr hc hx
    · exact .item hr hc hp hv h1 h3 hl
    · exact .ended hr hc hp he

end Sys2Proof.Machine
end

