-- ==== Sys2Proof/Tests/Slice0.lean ====
section
/-! SUPPORT. The model's own tests. Every expected value is transcribed from `spec/opcode_table.json` or from the vectors
of `spec/95_test_vectors.md` (their ids V<n> are named); the witnesses at the end show, for each obligation with
hypotheses, a concrete state that meets them. -/

namespace Sys2Proof.Tests

open Sys2Proof Sys2Proof.Machine

/-! ## Helpers -/

/-- The machine after reset over a buffer. -/
def romOf (bytes : List Byte) : State := State.reset.withRom bytes

/-- The same, asked for one operation. -/
def asking (bytes : List Byte) (r : Request) : State := { romOf bytes with requests := [r] }

/-- The newest response after a step. -/
def answer : Host.Outcome State Fault Refusal → Option Response
  | .next s => s.delivered.head?
  | .fault _ | .refused _ => none

/-- The control state and position after a step. -/
def cursor : Host.Outcome State Fault Refusal → Option (Nat × CursorState)
  | .next s => some (s.pos, s.st)
  | .fault _ | .refused _ => none

/-- The cause after a step. -/
def causeOf : Host.Outcome State Fault Refusal → Option Error
  | .next s => some s.cause
  | .fault _ | .refused _ => none

/-- What one `DECODE(off)` step answers over a buffer. -/
def decodeAt (bytes : List Byte) (off : Nat) : Option Response := answer (step (asking bytes (.decode off)))

/-- A positioned or exhausted cursor over a buffer, asked for one operation. -/
def cursorAt (bytes : List Byte) (pos : Nat) (st : CursorState) (cause : Error) (r : Request) : State :=
  { asking bytes r with pos := pos, st := st, cause := cause }

/-- An instance no `INIT` has touched, asked for one operation. -/
def beforeInit (bytes : List Byte) (r : Request) : State :=
  { State.unconstructed (romOf bytes).rom bytes.length with requests := [r] }

/-! ## WellFormed refuses ill-formed terms -/

theorem test_wf_jrE8 : Instr.wf (.jrE8 128) = false ∧ Instr.wf (.jrE8 (-129)) = false ∧
    Instr.wf (.jrE8 127) = true ∧ Instr.wf (.jrE8 (-128)) = true := by decide

theorem test_wf_jrNzE8 : Instr.wf (.jrNzE8 128) = false ∧ Instr.wf (.jrNzE8 (-129)) = false ∧
    Instr.wf (.jrNzE8 127) = true ∧ Instr.wf (.jrNzE8 (-128)) = true := by decide

theorem test_wf_jrZE8 : Instr.wf (.jrZE8 128) = false ∧ Instr.wf (.jrZE8 (-129)) = false ∧
    Instr.wf (.jrZE8 127) = true ∧ Instr.wf (.jrZE8 (-128)) = true := by decide

theorem test_wf_jrNcE8 : Instr.wf (.jrNcE8 128) = false ∧ Instr.wf (.jrNcE8 (-129)) = false ∧
    Instr.wf (.jrNcE8 127) = true ∧ Instr.wf (.jrNcE8 (-128)) = true := by decide

theorem test_wf_jrCE8 : Instr.wf (.jrCE8 128) = false ∧ Instr.wf (.jrCE8 (-129)) = false ∧
    Instr.wf (.jrCE8 127) = true ∧ Instr.wf (.jrCE8 (-128)) = true := by decide

theorem test_wf_addSpE8 : Instr.wf (.addSpE8 128) = false ∧ Instr.wf (.addSpE8 (-129)) = false ∧
    Instr.wf (.addSpE8 127) = true ∧ Instr.wf (.addSpE8 (-128)) = true := by decide

theorem test_wf_ldHlSpE8 : Instr.wf (.ldHlSpE8 128) = false ∧ Instr.wf (.ldHlSpE8 (-129)) = false ∧
    Instr.wf (.ldHlSpE8 127) = true ∧ Instr.wf (.ldHlSpE8 (-128)) = true := by decide

theorem test_wf_undefined : Instr.wf (.undefined 0x00#8) = false ∧ Instr.wf (.undefined 0xCB#8) = false ∧
    Instr.wf (.undefined 0xD3#8) = true := by decide

theorem test_wf_class_selectors :
    Instruction.wf (.ldR16Imm .af 0x1234#16) = false ∧ Instruction.wf (.inc16 .af) = false ∧
    Instruction.wf (.dec16 .af) = false ∧ Instruction.wf (.addHl .af) = false ∧
    Instruction.wf (.push .sp) = false ∧ Instruction.wf (.pop .sp) = false ∧
    Instruction.wf (.stAInd .hl) = false ∧ Instruction.wf (.ldAInd .sp) = false ∧
    Instruction.wf (.ldR8R8 .hlInd .hlInd) = false := by decide

theorem test_wf_class_payloads :
    Instruction.wf (.ldHlSpOff 128) = false ∧ Instruction.wf (.addSpOff (-129)) = false ∧
    Instruction.wf (.jr 128) = false ∧ Instruction.wf (.jrCc .nz (-129)) = false ∧
    Instruction.wf (.rst 0x01#8) = false ∧ Instruction.wf (.rst 0x40#8) = false := by decide

/-! ## Every row of the opcode table, decoded from its word
The words are the `match` column of `spec/opcode_table.json`, the operand bytes 0x34 0x12; the lengths its `length`
column. `PREFIX_CB` is the row of 0xCB only where no byte follows (log entry 7). -/

theorem test_rows_0x :
    decode [0x00#8, 0x34#8, 0x12#8] = .ok (.nop, 1) ∧
    decode [0x01#8, 0x34#8, 0x12#8] = .ok (.ldBcD16 0x1234#16, 3) ∧
    decode [0x02#8, 0x34#8, 0x12#8] = .ok (.ldMemBcA, 1) ∧
    decode [0x03#8, 0x34#8, 0x12#8] = .ok (.incBc, 1) ∧
    decode [0x04#8, 0x34#8, 0x12#8] = .ok (.incB, 1) ∧
    decode [0x05#8, 0x34#8, 0x12#8] = .ok (.decB, 1) ∧
    decode [0x06#8, 0x34#8, 0x12#8] = .ok (.ldBD8 0x34#8, 2) ∧
    decode [0x07#8, 0x34#8, 0x12#8] = .ok (.rlca, 1) ∧
    decode [0x08#8, 0x34#8, 0x12#8] = .ok (.ldMemA16Sp 0x1234#16, 3) ∧
    decode [0x09#8, 0x34#8, 0x12#8] = .ok (.addHlBc, 1) ∧
    decode [0x0A#8, 0x34#8, 0x12#8] = .ok (.ldAMemBc, 1) ∧
    decode [0x0B#8, 0x34#8, 0x12#8] = .ok (.decBc, 1) ∧
    decode [0x0C#8, 0x34#8, 0x12#8] = .ok (.incC, 1) ∧
    decode [0x0D#8, 0x34#8, 0x12#8] = .ok (.decC, 1) ∧
    decode [0x0E#8, 0x34#8, 0x12#8] = .ok (.ldCD8 0x34#8, 2) ∧
    decode [0x0F#8, 0x34#8, 0x12#8] = .ok (.rrca, 1) := by
  decide

theorem test_rows_1x :
    decode [0x10#8, 0x34#8, 0x12#8] = .ok (.stop, 1) ∧
    decode [0x11#8, 0x34#8, 0x12#8] = .ok (.ldDeD16 0x1234#16, 3) ∧
    decode [0x12#8, 0x34#8, 0x12#8] = .ok (.ldMemDeA, 1) ∧
    decode [0x13#8, 0x34#8, 0x12#8] = .ok (.incDe, 1) ∧
    decode [0x14#8, 0x34#8, 0x12#8] = .ok (.incD, 1) ∧
    decode [0x15#8, 0x34#8, 0x12#8] = .ok (.decD, 1) ∧
    decode [0x16#8, 0x34#8, 0x12#8] = .ok (.ldDD8 0x34#8, 2) ∧
    decode [0x17#8, 0x34#8, 0x12#8] = .ok (.rla, 1) ∧
    decode [0x18#8, 0x34#8, 0x12#8] = .ok (.jrE8 52, 2) ∧
    decode [0x19#8, 0x34#8, 0x12#8] = .ok (.addHlDe, 1) ∧
    decode [0x1A#8, 0x34#8, 0x12#8] = .ok (.ldAMemDe, 1) ∧
    decode [0x1B#8, 0x34#8, 0x12#8] = .ok (.decDe, 1) ∧
    decode [0x1C#8, 0x34#8, 0x12#8] = .ok (.incE, 1) ∧
    decode [0x1D#8, 0x34#8, 0x12#8] = .ok (.decE, 1) ∧
    decode [0x1E#8, 0x34#8, 0x12#8] = .ok (.ldED8 0x34#8, 2) ∧
    decode [0x1F#8, 0x34#8, 0x12#8] = .ok (.rra, 1) := by
  decide

theorem test_rows_2x :
    decode [0x20#8, 0x34#8, 0x12#8] = .ok (.jrNzE8 52, 2) ∧
    decode [0x21#8, 0x34#8, 0x12#8] = .ok (.ldHlD16 0x1234#16, 3) ∧
    decode [0x22#8, 0x34#8, 0x12#8] = .ok (.ldMemHlIncA, 1) ∧
    decode [0x23#8, 0x34#8, 0x12#8] = .ok (.incHl, 1) ∧
    decode [0x24#8, 0x34#8, 0x12#8] = .ok (.incH, 1) ∧
    decode [0x25#8, 0x34#8, 0x12#8] = .ok (.decH, 1) ∧
    decode [0x26#8, 0x34#8, 0x12#8] = .ok (.ldHD8 0x34#8, 2) ∧
    decode [0x27#8, 0x34#8, 0x12#8] = .ok (.daa, 1) ∧
    decode [0x28#8, 0x34#8, 0x12#8] = .ok (.jrZE8 52, 2) ∧
    decode [0x29#8, 0x34#8, 0x12#8] = .ok (.addHlHl, 1) ∧
    decode [0x2A#8, 0x34#8, 0x12#8] = .ok (.ldAMemHlInc, 1) ∧
    decode [0x2B#8, 0x34#8, 0x12#8] = .ok (.decHl, 1) ∧
    decode [0x2C#8, 0x34#8, 0x12#8] = .ok (.incL, 1) ∧
    decode [0x2D#8, 0x34#8, 0x12#8] = .ok (.decL, 1) ∧
    decode [0x2E#8, 0x34#8, 0x12#8] = .ok (.ldLD8 0x34#8, 2) ∧
    decode [0x2F#8, 0x34#8, 0x12#8] = .ok (.cpl, 1) := by
  decide

theorem test_rows_3x :
    decode [0x30#8, 0x34#8, 0x12#8] = .ok (.jrNcE8 52, 2) ∧
    decode [0x31#8, 0x34#8, 0x12#8] = .ok (.ldSpD16 0x1234#16, 3) ∧
    decode [0x32#8, 0x34#8, 0x12#8] = .ok (.ldMemHlDecA, 1) ∧
    decode [0x33#8, 0x34#8, 0x12#8] = .ok (.incSp, 1) ∧
    decode [0x34#8, 0x34#8, 0x12#8] = .ok (.incMemHl, 1) ∧
    decode [0x35#8, 0x34#8, 0x12#8] = .ok (.decMemHl, 1) ∧
    decode [0x36#8, 0x34#8, 0x12#8] = .ok (.ldMemHlD8 0x34#8, 2) ∧
    decode [0x37#8, 0x34#8, 0x12#8] = .ok (.scf, 1) ∧
    decode [0x38#8, 0x34#8, 0x12#8] = .ok (.jrCE8 52, 2) ∧
    decode [0x39#8, 0x34#8, 0x12#8] = .ok (.addHlSp, 1) ∧
    decode [0x3A#8, 0x34#8, 0x12#8] = .ok (.ldAMemHlDec, 1) ∧
    decode [0x3B#8, 0x34#8, 0x12#8] = .ok (.decSp, 1) ∧
    decode [0x3C#8, 0x34#8, 0x12#8] = .ok (.incA, 1) ∧
    decode [0x3D#8, 0x34#8, 0x12#8] = .ok (.decA, 1) ∧
    decode [0x3E#8, 0x34#8, 0x12#8] = .ok (.ldAD8 0x34#8, 2) ∧
    decode [0x3F#8, 0x34#8, 0x12#8] = .ok (.ccf, 1) := by
  decide

theorem test_rows_4x :
    decode [0x40#8, 0x34#8, 0x12#8] = .ok (.ldBB, 1) ∧
    decode [0x41#8, 0x34#8, 0x12#8] = .ok (.ldBC, 1) ∧
    decode [0x42#8, 0x34#8, 0x12#8] = .ok (.ldBD, 1) ∧
    decode [0x43#8, 0x34#8, 0x12#8] = .ok (.ldBE, 1) ∧
    decode [0x44#8, 0x34#8, 0x12#8] = .ok (.ldBH, 1) ∧
    decode [0x45#8, 0x34#8, 0x12#8] = .ok (.ldBL, 1) ∧
    decode [0x46#8, 0x34#8, 0x12#8] = .ok (.ldBMemHl, 1) ∧
    decode [0x47#8, 0x34#8, 0x12#8] = .ok (.ldBA, 1) ∧
    decode [0x48#8, 0x34#8, 0x12#8] = .ok (.ldCB, 1) ∧
    decode [0x49#8, 0x34#8, 0x12#8] = .ok (.ldCC, 1) ∧
    decode [0x4A#8, 0x34#8, 0x12#8] = .ok (.ldCD, 1) ∧
    decode [0x4B#8, 0x34#8, 0x12#8] = .ok (.ldCE, 1) ∧
    decode [0x4C#8, 0x34#8, 0x12#8] = .ok (.ldCH, 1) ∧
    decode [0x4D#8, 0x34#8, 0x12#8] = .ok (.ldCL, 1) ∧
    decode [0x4E#8, 0x34#8, 0x12#8] = .ok (.ldCMemHl, 1) ∧
    decode [0x4F#8, 0x34#8, 0x12#8] = .ok (.ldCA, 1) := by
  decide

theorem test_rows_5x :
    decode [0x50#8, 0x34#8, 0x12#8] = .ok (.ldDB, 1) ∧
    decode [0x51#8, 0x34#8, 0x12#8] = .ok (.ldDC, 1) ∧
    decode [0x52#8, 0x34#8, 0x12#8] = .ok (.ldDD, 1) ∧
    decode [0x53#8, 0x34#8, 0x12#8] = .ok (.ldDE, 1) ∧
    decode [0x54#8, 0x34#8, 0x12#8] = .ok (.ldDH, 1) ∧
    decode [0x55#8, 0x34#8, 0x12#8] = .ok (.ldDL, 1) ∧
    decode [0x56#8, 0x34#8, 0x12#8] = .ok (.ldDMemHl, 1) ∧
    decode [0x57#8, 0x34#8, 0x12#8] = .ok (.ldDA, 1) ∧
    decode [0x58#8, 0x34#8, 0x12#8] = .ok (.ldEB, 1) ∧
    decode [0x59#8, 0x34#8, 0x12#8] = .ok (.ldEC, 1) ∧
    decode [0x5A#8, 0x34#8, 0x12#8] = .ok (.ldED, 1) ∧
    decode [0x5B#8, 0x34#8, 0x12#8] = .ok (.ldEE, 1) ∧
    decode [0x5C#8, 0x34#8, 0x12#8] = .ok (.ldEH, 1) ∧
    decode [0x5D#8, 0x34#8, 0x12#8] = .ok (.ldEL, 1) ∧
    decode [0x5E#8, 0x34#8, 0x12#8] = .ok (.ldEMemHl, 1) ∧
    decode [0x5F#8, 0x34#8, 0x12#8] = .ok (.ldEA, 1) := by
  decide

theorem test_rows_6x :
    decode [0x60#8, 0x34#8, 0x12#8] = .ok (.ldHB, 1) ∧
    decode [0x61#8, 0x34#8, 0x12#8] = .ok (.ldHC, 1) ∧
    decode [0x62#8, 0x34#8, 0x12#8] = .ok (.ldHD, 1) ∧
    decode [0x63#8, 0x34#8, 0x12#8] = .ok (.ldHE, 1) ∧
    decode [0x64#8, 0x34#8, 0x12#8] = .ok (.ldHH, 1) ∧
    decode [0x65#8, 0x34#8, 0x12#8] = .ok (.ldHL, 1) ∧
    decode [0x66#8, 0x34#8, 0x12#8] = .ok (.ldHMemHl, 1) ∧
    decode [0x67#8, 0x34#8, 0x12#8] = .ok (.ldHA, 1) ∧
    decode [0x68#8, 0x34#8, 0x12#8] = .ok (.ldLB, 1) ∧
    decode [0x69#8, 0x34#8, 0x12#8] = .ok (.ldLC, 1) ∧
    decode [0x6A#8, 0x34#8, 0x12#8] = .ok (.ldLD, 1) ∧
    decode [0x6B#8, 0x34#8, 0x12#8] = .ok (.ldLE, 1) ∧
    decode [0x6C#8, 0x34#8, 0x12#8] = .ok (.ldLH, 1) ∧
    decode [0x6D#8, 0x34#8, 0x12#8] = .ok (.ldLL, 1) ∧
    decode [0x6E#8, 0x34#8, 0x12#8] = .ok (.ldLMemHl, 1) ∧
    decode [0x6F#8, 0x34#8, 0x12#8] = .ok (.ldLA, 1) := by
  decide

theorem test_rows_7x :
    decode [0x70#8, 0x34#8, 0x12#8] = .ok (.ldMemHlB, 1) ∧
    decode [0x71#8, 0x34#8, 0x12#8] = .ok (.ldMemHlC, 1) ∧
    decode [0x72#8, 0x34#8, 0x12#8] = .ok (.ldMemHlD, 1) ∧
    decode [0x73#8, 0x34#8, 0x12#8] = .ok (.ldMemHlE, 1) ∧
    decode [0x74#8, 0x34#8, 0x12#8] = .ok (.ldMemHlH, 1) ∧
    decode [0x75#8, 0x34#8, 0x12#8] = .ok (.ldMemHlL, 1) ∧
    decode [0x76#8, 0x34#8, 0x12#8] = .ok (.halt, 1) ∧
    decode [0x77#8, 0x34#8, 0x12#8] = .ok (.ldMemHlA, 1) ∧
    decode [0x78#8, 0x34#8, 0x12#8] = .ok (.ldAB, 1) ∧
    decode [0x79#8, 0x34#8, 0x12#8] = .ok (.ldAC, 1) ∧
    decode [0x7A#8, 0x34#8, 0x12#8] = .ok (.ldAD, 1) ∧
    decode [0x7B#8, 0x34#8, 0x12#8] = .ok (.ldAE, 1) ∧
    decode [0x7C#8, 0x34#8, 0x12#8] = .ok (.ldAH, 1) ∧
    decode [0x7D#8, 0x34#8, 0x12#8] = .ok (.ldAL, 1) ∧
    decode [0x7E#8, 0x34#8, 0x12#8] = .ok (.ldAMemHl, 1) ∧
    decode [0x7F#8, 0x34#8, 0x12#8] = .ok (.ldAA, 1) := by
  decide

theorem test_rows_8x :
    decode [0x80#8, 0x34#8, 0x12#8] = .ok (.addAB, 1) ∧
    decode [0x81#8, 0x34#8, 0x12#8] = .ok (.addAC, 1) ∧
    decode [0x82#8, 0x34#8, 0x12#8] = .ok (.addAD, 1) ∧
    decode [0x83#8, 0x34#8, 0x12#8] = .ok (.addAE, 1) ∧
    decode [0x84#8, 0x34#8, 0x12#8] = .ok (.addAH, 1) ∧
    decode [0x85#8, 0x34#8, 0x12#8] = .ok (.addAL, 1) ∧
    decode [0x86#8, 0x34#8, 0x12#8] = .ok (.addAMemHl, 1) ∧
    decode [0x87#8, 0x34#8, 0x12#8] = .ok (.addAA, 1) ∧
    decode [0x88#8, 0x34#8, 0x12#8] = .ok (.adcAB, 1) ∧
    decode [0x89#8, 0x34#8, 0x12#8] = .ok (.adcAC, 1) ∧
    decode [0x8A#8, 0x34#8, 0x12#8] = .ok (.adcAD, 1) ∧
    decode [0x8B#8, 0x34#8, 0x12#8] = .ok (.adcAE, 1) ∧
    decode [0x8C#8, 0x34#8, 0x12#8] = .ok (.adcAH, 1) ∧
    decode [0x8D#8, 0x34#8, 0x12#8] = .ok (.adcAL, 1) ∧
    decode [0x8E#8, 0x34#8, 0x12#8] = .ok (.adcAMemHl, 1) ∧
    decode [0x8F#8, 0x34#8, 0x12#8] = .ok (.adcAA, 1) := by
  decide

theorem test_rows_9x :
    decode [0x90#8, 0x34#8, 0x12#8] = .ok (.subB, 1) ∧
    decode [0x91#8, 0x34#8, 0x12#8] = .ok (.subC, 1) ∧
    decode [0x92#8, 0x34#8, 0x12#8] = .ok (.subD, 1) ∧
    decode [0x93#8, 0x34#8, 0x12#8] = .ok (.subE, 1) ∧
    decode [0x94#8, 0x34#8, 0x12#8] = .ok (.subH, 1) ∧
    decode [0x95#8, 0x34#8, 0x12#8] = .ok (.subL, 1) ∧
    decode [0x96#8, 0x34#8, 0x12#8] = .ok (.subMemHl, 1) ∧
    decode [0x97#8, 0x34#8, 0x12#8] = .ok (.subA, 1) ∧
    decode [0x98#8, 0x34#8, 0x12#8] = .ok (.sbcAB, 1) ∧
    decode [0x99#8, 0x34#8, 0x12#8] = .ok (.sbcAC, 1) ∧
    decode [0x9A#8, 0x34#8, 0x12#8] = .ok (.sbcAD, 1) ∧
    decode [0x9B#8, 0x34#8, 0x12#8] = .ok (.sbcAE, 1) ∧
    decode [0x9C#8, 0x34#8, 0x12#8] = .ok (.sbcAH, 1) ∧
    decode [0x9D#8, 0x34#8, 0x12#8] = .ok (.sbcAL, 1) ∧
    decode [0x9E#8, 0x34#8, 0x12#8] = .ok (.sbcAMemHl, 1) ∧
    decode [0x9F#8, 0x34#8, 0x12#8] = .ok (.sbcAA, 1) := by
  decide

theorem test_rows_Ax :
    decode [0xA0#8, 0x34#8, 0x12#8] = .ok (.andB, 1) ∧
    decode [0xA1#8, 0x34#8, 0x12#8] = .ok (.andC, 1) ∧
    decode [0xA2#8, 0x34#8, 0x12#8] = .ok (.andD, 1) ∧
    decode [0xA3#8, 0x34#8, 0x12#8] = .ok (.andE, 1) ∧
    decode [0xA4#8, 0x34#8, 0x12#8] = .ok (.andH, 1) ∧
    decode [0xA5#8, 0x34#8, 0x12#8] = .ok (.andL, 1) ∧
    decode [0xA6#8, 0x34#8, 0x12#8] = .ok (.andMemHl, 1) ∧
    decode [0xA7#8, 0x34#8, 0x12#8] = .ok (.andA, 1) ∧
    decode [0xA8#8, 0x34#8, 0x12#8] = .ok (.xorB, 1) ∧
    decode [0xA9#8, 0x34#8, 0x12#8] = .ok (.xorC, 1) ∧
    decode [0xAA#8, 0x34#8, 0x12#8] = .ok (.xorD, 1) ∧
    decode [0xAB#8, 0x34#8, 0x12#8] = .ok (.xorE, 1) ∧
    decode [0xAC#8, 0x34#8, 0x12#8] = .ok (.xorH, 1) ∧
    decode [0xAD#8, 0x34#8, 0x12#8] = .ok (.xorL, 1) ∧
    decode [0xAE#8, 0x34#8, 0x12#8] = .ok (.xorMemHl, 1) ∧
    decode [0xAF#8, 0x34#8, 0x12#8] = .ok (.xorA, 1) := by
  decide

theorem test_rows_Bx :
    decode [0xB0#8, 0x34#8, 0x12#8] = .ok (.orB, 1) ∧
    decode [0xB1#8, 0x34#8, 0x12#8] = .ok (.orC, 1) ∧
    decode [0xB2#8, 0x34#8, 0x12#8] = .ok (.orD, 1) ∧
    decode [0xB3#8, 0x34#8, 0x12#8] = .ok (.orE, 1) ∧
    decode [0xB4#8, 0x34#8, 0x12#8] = .ok (.orH, 1) ∧
    decode [0xB5#8, 0x34#8, 0x12#8] = .ok (.orL, 1) ∧
    decode [0xB6#8, 0x34#8, 0x12#8] = .ok (.orMemHl, 1) ∧
    decode [0xB7#8, 0x34#8, 0x12#8] = .ok (.orA, 1) ∧
    decode [0xB8#8, 0x34#8, 0x12#8] = .ok (.cpB, 1) ∧
    decode [0xB9#8, 0x34#8, 0x12#8] = .ok (.cpC, 1) ∧
    decode [0xBA#8, 0x34#8, 0x12#8] = .ok (.cpD, 1) ∧
    decode [0xBB#8, 0x34#8, 0x12#8] = .ok (.cpE, 1) ∧
    decode [0xBC#8, 0x34#8, 0x12#8] = .ok (.cpH, 1) ∧
    decode [0xBD#8, 0x34#8, 0x12#8] = .ok (.cpL, 1) ∧
    decode [0xBE#8, 0x34#8, 0x12#8] = .ok (.cpMemHl, 1) ∧
    decode [0xBF#8, 0x34#8, 0x12#8] = .ok (.cpA, 1) := by
  decide

theorem test_rows_Cx :
    decode [0xC0#8, 0x34#8, 0x12#8] = .ok (.retNz, 1) ∧
    decode [0xC1#8, 0x34#8, 0x12#8] = .ok (.popBc, 1) ∧
    decode [0xC2#8, 0x34#8, 0x12#8] = .ok (.jpNzA16 0x1234#16, 3) ∧
    decode [0xC3#8, 0x34#8, 0x12#8] = .ok (.jpA16 0x1234#16, 3) ∧
    decode [0xC4#8, 0x34#8, 0x12#8] = .ok (.callNzA16 0x1234#16, 3) ∧
    decode [0xC5#8, 0x34#8, 0x12#8] = .ok (.pushBc, 1) ∧
    decode [0xC6#8, 0x34#8, 0x12#8] = .ok (.addAD8 0x34#8, 2) ∧
    decode [0xC7#8, 0x34#8, 0x12#8] = .ok (.rst00, 1) ∧
    decode [0xC8#8, 0x34#8, 0x12#8] = .ok (.retZ, 1) ∧
    decode [0xC9#8, 0x34#8, 0x12#8] = .ok (.ret, 1) ∧
    decode [0xCA#8, 0x34#8, 0x12#8] = .ok (.jpZA16 0x1234#16, 3) ∧
    decode [0xCB#8] = .ok (.prefixCb, 1) ∧
    decode [0xCC#8, 0x34#8, 0x12#8] = .ok (.callZA16 0x1234#16, 3) ∧
    decode [0xCD#8, 0x34#8, 0x12#8] = .ok (.callA16 0x1234#16, 3) ∧
    decode [0xCE#8, 0x34#8, 0x12#8] = .ok (.adcAD8 0x34#8, 2) ∧
    decode [0xCF#8, 0x34#8, 0x12#8] = .ok (.rst08, 1) := by
  decide

theorem test_rows_Dx :
    decode [0xD0#8, 0x34#8, 0x12#8] = .ok (.retNc, 1) ∧
    decode [0xD1#8, 0x34#8, 0x12#8] = .ok (.popDe, 1) ∧
    decode [0xD2#8, 0x34#8, 0x12#8] = .ok (.jpNcA16 0x1234#16, 3) ∧
    decode [0xD3#8, 0x34#8, 0x12#8] = .ok (.undefined 0xD3#8, 1) ∧
    decode [0xD4#8, 0x34#8, 0x12#8] = .ok (.callNcA16 0x1234#16, 3) ∧
    decode [0xD5#8, 0x34#8, 0x12#8] = .ok (.pushDe, 1) ∧
    decode [0xD6#8, 0x34#8, 0x12#8] = .ok (.subD8 0x34#8, 2) ∧
    decode [0xD7#8, 0x34#8, 0x12#8] = .ok (.rst10, 1) ∧
    decode [0xD8#8, 0x34#8, 0x12#8] = .ok (.retC, 1) ∧
    decode [0xD9#8, 0x34#8, 0x12#8] = .ok (.reti, 1) ∧
    decode [0xDA#8, 0x34#8, 0x12#8] = .ok (.jpCA16 0x1234#16, 3) ∧
    decode [0xDB#8, 0x34#8, 0x12#8] = .ok (.undefined 0xDB#8, 1) ∧
    decode [0xDC#8, 0x34#8, 0x12#8] = .ok (.callCA16 0x1234#16, 3) ∧
    decode [0xDD#8, 0x34#8, 0x12#8] = .ok (.undefined 0xDD#8, 1) ∧
    decode [0xDE#8, 0x34#8, 0x12#8] = .ok (.sbcAD8 0x34#8, 2) ∧
    decode [0xDF#8, 0x34#8, 0x12#8] = .ok (.rst18, 1) := by
  decide

theorem test_rows_Ex :
    decode [0xE0#8, 0x34#8, 0x12#8] = .ok (.ldhMemA8A 0x34#8, 2) ∧
    decode [0xE1#8, 0x34#8, 0x12#8] = .ok (.popHl, 1) ∧
    decode [0xE2#8, 0x34#8, 0x12#8] = .ok (.ldhMemCA, 1) ∧
    decode [0xE3#8, 0x34#8, 0x12#8] = .ok (.undefined 0xE3#8, 1) ∧
    decode [0xE4#8, 0x34#8, 0x12#8] = .ok (.undefined 0xE4#8, 1) ∧
    decode [0xE5#8, 0x34#8, 0x12#8] = .ok (.pushHl, 1) ∧
    decode [0xE6#8, 0x34#8, 0x12#8] = .ok (.andD8 0x34#8, 2) ∧
    decode [0xE7#8, 0x34#8, 0x12#8] = .ok (.rst20, 1) ∧
    decode [0xE8#8, 0x34#8, 0x12#8] = .ok (.addSpE8 52, 2) ∧
    decode [0xE9#8, 0x34#8, 0x12#8] = .ok (.jpHl, 1) ∧
    decode [0xEA#8, 0x34#8, 0x12#8] = .ok (.ldMemA16A 0x1234#16, 3) ∧
    decode [0xEB#8, 0x34#8, 0x12#8] = .ok (.undefined 0xEB#8, 1) ∧
    decode [0xEC#8, 0x34#8, 0x12#8] = .ok (.undefined 0xEC#8, 1) ∧
    decode [0xED#8, 0x34#8, 0x12#8] = .ok (.undefined 0xED#8, 1) ∧
    decode [0xEE#8, 0x34#8, 0x12#8] = .ok (.xorD8 0x34#8, 2) ∧
    decode [0xEF#8, 0x34#8, 0x12#8] = .ok (.rst28, 1) := by
  decide

theorem test_rows_Fx :
    decode [0xF0#8, 0x34#8, 0x12#8] = .ok (.ldhAMemA8 0x34#8, 2) ∧
    decode [0xF1#8, 0x34#8, 0x12#8] = .ok (.popAf, 1) ∧
    decode [0xF2#8, 0x34#8, 0x12#8] = .ok (.ldhAMemC, 1) ∧
    decode [0xF3#8, 0x34#8, 0x12#8] = .ok (.di, 1) ∧
    decode [0xF4#8, 0x34#8, 0x12#8] = .ok (.undefined 0xF4#8, 1) ∧
    decode [0xF5#8, 0x34#8, 0x12#8] = .ok (.pushAf, 1) ∧
    decode [0xF6#8, 0x34#8, 0x12#8] = .ok (.orD8 0x34#8, 2) ∧
    decode [0xF7#8, 0x34#8, 0x12#8] = .ok (.rst30, 1) ∧
    decode [0xF8#8, 0x34#8, 0x12#8] = .ok (.ldHlSpE8 52, 2) ∧
    decode [0xF9#8, 0x34#8, 0x12#8] = .ok (.ldSpHl, 1) ∧
    decode [0xFA#8, 0x34#8, 0x12#8] = .ok (.ldAMemA16 0x1234#16, 3) ∧
    decode [0xFB#8, 0x34#8, 0x12#8] = .ok (.ei, 1) ∧
    decode [0xFC#8, 0x34#8, 0x12#8] = .ok (.undefined 0xFC#8, 1) ∧
    decode [0xFD#8, 0x34#8, 0x12#8] = .ok (.undefined 0xFD#8, 1) ∧
    decode [0xFE#8, 0x34#8, 0x12#8] = .ok (.cpD8 0x34#8, 2) ∧
    decode [0xFF#8, 0x34#8, 0x12#8] = .ok (.rst38, 1) := by
  decide

theorem test_rows_cb_0x :
    decode [0xCB#8, 0x00#8, 0x12#8] = .ok (.rlcB, 2) ∧
    decode [0xCB#8, 0x01#8, 0x12#8] = .ok (.rlcC, 2) ∧
    decode [0xCB#8, 0x02#8, 0x12#8] = .ok (.rlcD, 2) ∧
    decode [0xCB#8, 0x03#8, 0x12#8] = .ok (.rlcE, 2) ∧
    decode [0xCB#8, 0x04#8, 0x12#8] = .ok (.rlcH, 2) ∧
    decode [0xCB#8, 0x05#8, 0x12#8] = .ok (.rlcL, 2) ∧
    decode [0xCB#8, 0x06#8, 0x12#8] = .ok (.rlcMemHl, 2) ∧
    decode [0xCB#8, 0x07#8, 0x12#8] = .ok (.rlcA, 2) ∧
    decode [0xCB#8, 0x08#8, 0x12#8] = .ok (.rrcB, 2) ∧
    decode [0xCB#8, 0x09#8, 0x12#8] = .ok (.rrcC, 2) ∧
    decode [0xCB#8, 0x0A#8, 0x12#8] = .ok (.rrcD, 2) ∧
    decode [0xCB#8, 0x0B#8, 0x12#8] = .ok (.rrcE, 2) ∧
    decode [0xCB#8, 0x0C#8, 0x12#8] = .ok (.rrcH, 2) ∧
    decode [0xCB#8, 0x0D#8, 0x12#8] = .ok (.rrcL, 2) ∧
    decode [0xCB#8, 0x0E#8, 0x12#8] = .ok (.rrcMemHl, 2) ∧
    decode [0xCB#8, 0x0F#8, 0x12#8] = .ok (.rrcA, 2) := by
  decide

theorem test_rows_cb_1x :
    decode [0xCB#8, 0x10#8, 0x12#8] = .ok (.rlB, 2) ∧
    decode [0xCB#8, 0x11#8, 0x12#8] = .ok (.rlC, 2) ∧
    decode [0xCB#8, 0x12#8, 0x12#8] = .ok (.rlD, 2) ∧
    decode [0xCB#8, 0x13#8, 0x12#8] = .ok (.rlE, 2) ∧
    decode [0xCB#8, 0x14#8, 0x12#8] = .ok (.rlH, 2) ∧
    decode [0xCB#8, 0x15#8, 0x12#8] = .ok (.rlL, 2) ∧
    decode [0xCB#8, 0x16#8, 0x12#8] = .ok (.rlMemHl, 2) ∧
    decode [0xCB#8, 0x17#8, 0x12#8] = .ok (.rlA, 2) ∧
    decode [0xCB#8, 0x18#8, 0x12#8] = .ok (.rrB, 2) ∧
    decode [0xCB#8, 0x19#8, 0x12#8] = .ok (.rrC, 2) ∧
    decode [0xCB#8, 0x1A#8, 0x12#8] = .ok (.rrD, 2) ∧
    decode [0xCB#8, 0x1B#8, 0x12#8] = .ok (.rrE, 2) ∧
    decode [0xCB#8, 0x1C#8, 0x12#8] = .ok (.rrH, 2) ∧
    decode [0xCB#8, 0x1D#8, 0x12#8] = .ok (.rrL, 2) ∧
    decode [0xCB#8, 0x1E#8, 0x12#8] = .ok (.rrMemHl, 2) ∧
    decode [0xCB#8, 0x1F#8, 0x12#8] = .ok (.rrA, 2) := by
  decide

theorem test_rows_cb_2x :
    decode [0xCB#8, 0x20#8, 0x12#8] = .ok (.slaB, 2) ∧
    decode [0xCB#8, 0x21#8, 0x12#8] = .ok (.slaC, 2) ∧
    decode [0xCB#8, 0x22#8, 0x12#8] = .ok (.slaD, 2) ∧
    decode [0xCB#8, 0x23#8, 0x12#8] = .ok (.slaE, 2) ∧
    decode [0xCB#8, 0x24#8, 0x12#8] = .ok (.slaH, 2) ∧
    decode [0xCB#8, 0x25#8, 0x12#8] = .ok (.slaL, 2) ∧
    decode [0xCB#8, 0x26#8, 0x12#8] = .ok (.slaMemHl, 2) ∧
    decode [0xCB#8, 0x27#8, 0x12#8] = .ok (.slaA, 2) ∧
    decode [0xCB#8, 0x28#8, 0x12#8] = .ok (.sraB, 2) ∧
    decode [0xCB#8, 0x29#8, 0x12#8] = .ok (.sraC, 2) ∧
    decode [0xCB#8, 0x2A#8, 0x12#8] = .ok (.sraD, 2) ∧
    decode [0xCB#8, 0x2B#8, 0x12#8] = .ok (.sraE, 2) ∧
    decode [0xCB#8, 0x2C#8, 0x12#8] = .ok (.sraH, 2) ∧
    decode [0xCB#8, 0x2D#8, 0x12#8] = .ok (.sraL, 2) ∧
    decode [0xCB#8, 0x2E#8, 0x12#8] = .ok (.sraMemHl, 2) ∧
    decode [0xCB#8, 0x2F#8, 0x12#8] = .ok (.sraA, 2) := by
  decide

theorem test_rows_cb_3x :
    decode [0xCB#8, 0x30#8, 0x12#8] = .ok (.swapB, 2) ∧
    decode [0xCB#8, 0x31#8, 0x12#8] = .ok (.swapC, 2) ∧
    decode [0xCB#8, 0x32#8, 0x12#8] = .ok (.swapD, 2) ∧
    decode [0xCB#8, 0x33#8, 0x12#8] = .ok (.swapE, 2) ∧
    decode [0xCB#8, 0x34#8, 0x12#8] = .ok (.swapH, 2) ∧
    decode [0xCB#8, 0x35#8, 0x12#8] = .ok (.swapL, 2) ∧
    decode [0xCB#8, 0x36#8, 0x12#8] = .ok (.swapMemHl, 2) ∧
    decode [0xCB#8, 0x37#8, 0x12#8] = .ok (.swapA, 2) ∧
    decode [0xCB#8, 0x38#8, 0x12#8] = .ok (.srlB, 2) ∧
    decode [0xCB#8, 0x39#8, 0x12#8] = .ok (.srlC, 2) ∧
    decode [0xCB#8, 0x3A#8, 0x12#8] = .ok (.srlD, 2) ∧
    decode [0xCB#8, 0x3B#8, 0x12#8] = .ok (.srlE, 2) ∧
    decode [0xCB#8, 0x3C#8, 0x12#8] = .ok (.srlH, 2) ∧
    decode [0xCB#8, 0x3D#8, 0x12#8] = .ok (.srlL, 2) ∧
    decode [0xCB#8, 0x3E#8, 0x12#8] = .ok (.srlMemHl, 2) ∧
    decode [0xCB#8, 0x3F#8, 0x12#8] = .ok (.srlA, 2) := by
  decide

theorem test_rows_cb_4x :
    decode [0xCB#8, 0x40#8, 0x12#8] = .ok (.bit0B, 2) ∧
    decode [0xCB#8, 0x41#8, 0x12#8] = .ok (.bit0C, 2) ∧
    decode [0xCB#8, 0x42#8, 0x12#8] = .ok (.bit0D, 2) ∧
    decode [0xCB#8, 0x43#8, 0x12#8] = .ok (.bit0E, 2) ∧
    decode [0xCB#8, 0x44#8, 0x12#8] = .ok (.bit0H, 2) ∧
    decode [0xCB#8, 0x45#8, 0x12#8] = .ok (.bit0L, 2) ∧
    decode [0xCB#8, 0x46#8, 0x12#8] = .ok (.bit0MemHl, 2) ∧
    decode [0xCB#8, 0x47#8, 0x12#8] = .ok (.bit0A, 2) ∧
    decode [0xCB#8, 0x48#8, 0x12#8] = .ok (.bit1B, 2) ∧
    decode [0xCB#8, 0x49#8, 0x12#8] = .ok (.bit1C, 2) ∧
    decode [0xCB#8, 0x4A#8, 0x12#8] = .ok (.bit1D, 2) ∧
    decode [0xCB#8, 0x4B#8, 0x12#8] = .ok (.bit1E, 2) ∧
    decode [0xCB#8, 0x4C#8, 0x12#8] = .ok (.bit1H, 2) ∧
    decode [0xCB#8, 0x4D#8, 0x12#8] = .ok (.bit1L, 2) ∧
    decode [0xCB#8, 0x4E#8, 0x12#8] = .ok (.bit1MemHl, 2) ∧
    decode [0xCB#8, 0x4F#8, 0x12#8] = .ok (.bit1A, 2) := by
  decide

theorem test_rows_cb_5x :
    decode [0xCB#8, 0x50#8, 0x12#8] = .ok (.bit2B, 2) ∧
    decode [0xCB#8, 0x51#8, 0x12#8] = .ok (.bit2C, 2) ∧
    decode [0xCB#8, 0x52#8, 0x12#8] = .ok (.bit2D, 2) ∧
    decode [0xCB#8, 0x53#8, 0x12#8] = .ok (.bit2E, 2) ∧
    decode [0xCB#8, 0x54#8, 0x12#8] = .ok (.bit2H, 2) ∧
    decode [0xCB#8, 0x55#8, 0x12#8] = .ok (.bit2L, 2) ∧
    decode [0xCB#8, 0x56#8, 0x12#8] = .ok (.bit2MemHl, 2) ∧
    decode [0xCB#8, 0x57#8, 0x12#8] = .ok (.bit2A, 2) ∧
    decode [0xCB#8, 0x58#8, 0x12#8] = .ok (.bit3B, 2) ∧
    decode [0xCB#8, 0x59#8, 0x12#8] = .ok (.bit3C, 2) ∧
    decode [0xCB#8, 0x5A#8, 0x12#8] = .ok (.bit3D, 2) ∧
    decode [0xCB#8, 0x5B#8, 0x12#8] = .ok (.bit3E, 2) ∧
    decode [0xCB#8, 0x5C#8, 0x12#8] = .ok (.bit3H, 2) ∧
    decode [0xCB#8, 0x5D#8, 0x12#8] = .ok (.bit3L, 2) ∧
    decode [0xCB#8, 0x5E#8, 0x12#8] = .ok (.bit3MemHl, 2) ∧
    decode [0xCB#8, 0x5F#8, 0x12#8] = .ok (.bit3A, 2) := by
  decide

theorem test_rows_cb_6x :
    decode [0xCB#8, 0x60#8, 0x12#8] = .ok (.bit4B, 2) ∧
    decode [0xCB#8, 0x61#8, 0x12#8] = .ok (.bit4C, 2) ∧
    decode [0xCB#8, 0x62#8, 0x12#8] = .ok (.bit4D, 2) ∧
    decode [0xCB#8, 0x63#8, 0x12#8] = .ok (.bit4E, 2) ∧
    decode [0xCB#8, 0x64#8, 0x12#8] = .ok (.bit4H, 2) ∧
    decode [0xCB#8, 0x65#8, 0x12#8] = .ok (.bit4L, 2) ∧
    decode [0xCB#8, 0x66#8, 0x12#8] = .ok (.bit4MemHl, 2) ∧
    decode [0xCB#8, 0x67#8, 0x12#8] = .ok (.bit4A, 2) ∧
    decode [0xCB#8, 0x68#8, 0x12#8] = .ok (.bit5B, 2) ∧
    decode [0xCB#8, 0x69#8, 0x12#8] = .ok (.bit5C, 2) ∧
    decode [0xCB#8, 0x6A#8, 0x12#8] = .ok (.bit5D, 2) ∧
    decode [0xCB#8, 0x6B#8, 0x12#8] = .ok (.bit5E, 2) ∧
    decode [0xCB#8, 0x6C#8, 0x12#8] = .ok (.bit5H, 2) ∧
    decode [0xCB#8, 0x6D#8, 0x12#8] = .ok (.bit5L, 2) ∧
    decode [0xCB#8, 0x6E#8, 0x12#8] = .ok (.bit5MemHl, 2) ∧
    decode [0xCB#8, 0x6F#8, 0x12#8] = .ok (.bit5A, 2) := by
  decide

theorem test_rows_cb_7x :
    decode [0xCB#8, 0x70#8, 0x12#8] = .ok (.bit6B, 2) ∧
    decode [0xCB#8, 0x71#8, 0x12#8] = .ok (.bit6C, 2) ∧
    decode [0xCB#8, 0x72#8, 0x12#8] = .ok (.bit6D, 2) ∧
    decode [0xCB#8, 0x73#8, 0x12#8] = .ok (.bit6E, 2) ∧
    decode [0xCB#8, 0x74#8, 0x12#8] = .ok (.bit6H, 2) ∧
    decode [0xCB#8, 0x75#8, 0x12#8] = .ok (.bit6L, 2) ∧
    decode [0xCB#8, 0x76#8, 0x12#8] = .ok (.bit6MemHl, 2) ∧
    decode [0xCB#8, 0x77#8, 0x12#8] = .ok (.bit6A, 2) ∧
    decode [0xCB#8, 0x78#8, 0x12#8] = .ok (.bit7B, 2) ∧
    decode [0xCB#8, 0x79#8, 0x12#8] = .ok (.bit7C, 2) ∧
    decode [0xCB#8, 0x7A#8, 0x12#8] = .ok (.bit7D, 2) ∧
    decode [0xCB#8, 0x7B#8, 0x12#8] = .ok (.bit7E, 2) ∧
    decode [0xCB#8, 0x7C#8, 0x12#8] = .ok (.bit7H, 2) ∧
    decode [0xCB#8, 0x7D#8, 0x12#8] = .ok (.bit7L, 2) ∧
    decode [0xCB#8, 0x7E#8, 0x12#8] = .ok (.bit7MemHl, 2) ∧
    decode [0xCB#8, 0x7F#8, 0x12#8] = .ok (.bit7A, 2) := by
  decide

theorem test_rows_cb_8x :
    decode [0xCB#8, 0x80#8, 0x12#8] = .ok (.res0B, 2) ∧
    decode [0xCB#8, 0x81#8, 0x12#8] = .ok (.res0C, 2) ∧
    decode [0xCB#8, 0x82#8, 0x12#8] = .ok (.res0D, 2) ∧
    decode [0xCB#8, 0x83#8, 0x12#8] = .ok (.res0E, 2) ∧
    decode [0xCB#8, 0x84#8, 0x12#8] = .ok (.res0H, 2) ∧
    decode [0xCB#8, 0x85#8, 0x12#8] = .ok (.res0L, 2) ∧
    decode [0xCB#8, 0x86#8, 0x12#8] = .ok (.res0MemHl, 2) ∧
    decode [0xCB#8, 0x87#8, 0x12#8] = .ok (.res0A, 2) ∧
    decode [0xCB#8, 0x88#8, 0x12#8] = .ok (.res1B, 2) ∧
    decode [0xCB#8, 0x89#8, 0x12#8] = .ok (.res1C, 2) ∧
    decode [0xCB#8, 0x8A#8, 0x12#8] = .ok (.res1D, 2) ∧
    decode [0xCB#8, 0x8B#8, 0x12#8] = .ok (.res1E, 2) ∧
    decode [0xCB#8, 0x8C#8, 0x12#8] = .ok (.res1H, 2) ∧
    decode [0xCB#8, 0x8D#8, 0x12#8] = .ok (.res1L, 2) ∧
    decode [0xCB#8, 0x8E#8, 0x12#8] = .ok (.res1MemHl, 2) ∧
    decode [0xCB#8, 0x8F#8, 0x12#8] = .ok (.res1A, 2) := by
  decide

theorem test_rows_cb_9x :
    decode [0xCB#8, 0x90#8, 0x12#8] = .ok (.res2B, 2) ∧
    decode [0xCB#8, 0x91#8, 0x12#8] = .ok (.res2C, 2) ∧
    decode [0xCB#8, 0x92#8, 0x12#8] = .ok (.res2D, 2) ∧
    decode [0xCB#8, 0x93#8, 0x12#8] = .ok (.res2E, 2) ∧
    decode [0xCB#8, 0x94#8, 0x12#8] = .ok (.res2H, 2) ∧
    decode [0xCB#8, 0x95#8, 0x12#8] = .ok (.res2L, 2) ∧
    decode [0xCB#8, 0x96#8, 0x12#8] = .ok (.res2MemHl, 2) ∧
    decode [0xCB#8, 0x97#8, 0x12#8] = .ok (.res2A, 2) ∧
    decode [0xCB#8, 0x98#8, 0x12#8] = .ok (.res3B, 2) ∧
    decode [0xCB#8, 0x99#8, 0x12#8] = .ok (.res3C, 2) ∧
    decode [0xCB#8, 0x9A#8, 0x12#8] = .ok (.res3D, 2) ∧
    decode [0xCB#8, 0x9B#8, 0x12#8] = .ok (.res3E, 2) ∧
    decode [0xCB#8, 0x9C#8, 0x12#8] = .ok (.res3H, 2) ∧
    decode [0xCB#8, 0x9D#8, 0x12#8] = .ok (.res3L, 2) ∧
    decode [0xCB#8, 0x9E#8, 0x12#8] = .ok (.res3MemHl, 2) ∧
    decode [0xCB#8, 0x9F#8, 0x12#8] = .ok (.res3A, 2) := by
  decide

theorem test_rows_cb_Ax :
    decode [0xCB#8, 0xA0#8, 0x12#8] = .ok (.res4B, 2) ∧
    decode [0xCB#8, 0xA1#8, 0x12#8] = .ok (.res4C, 2) ∧
    decode [0xCB#8, 0xA2#8, 0x12#8] = .ok (.res4D, 2) ∧
    decode [0xCB#8, 0xA3#8, 0x12#8] = .ok (.res4E, 2) ∧
    decode [0xCB#8, 0xA4#8, 0x12#8] = .ok (.res4H, 2) ∧
    decode [0xCB#8, 0xA5#8, 0x12#8] = .ok (.res4L, 2) ∧
    decode [0xCB#8, 0xA6#8, 0x12#8] = .ok (.res4MemHl, 2) ∧
    decode [0xCB#8, 0xA7#8, 0x12#8] = .ok (.res4A, 2) ∧
    decode [0xCB#8, 0xA8#8, 0x12#8] = .ok (.res5B, 2) ∧
    decode [0xCB#8, 0xA9#8, 0x12#8] = .ok (.res5C, 2) ∧
    decode [0xCB#8, 0xAA#8, 0x12#8] = .ok (.res5D, 2) ∧
    decode [0xCB#8, 0xAB#8, 0x12#8] = .ok (.res5E, 2) ∧
    decode [0xCB#8, 0xAC#8, 0x12#8] = .ok (.res5H, 2) ∧
    decode [0xCB#8, 0xAD#8, 0x12#8] = .ok (.res5L, 2) ∧
    decode [0xCB#8, 0xAE#8, 0x12#8] = .ok (.res5MemHl, 2) ∧
    decode [0xCB#8, 0xAF#8, 0x12#8] = .ok (.res5A, 2) := by
  decide

theorem test_rows_cb_Bx :
    decode [0xCB#8, 0xB0#8, 0x12#8] = .ok (.res6B, 2) ∧
    decode [0xCB#8, 0xB1#8, 0x12#8] = .ok (.res6C, 2) ∧
    decode [0xCB#8, 0xB2#8, 0x12#8] = .ok (.res6D, 2) ∧
    decode [0xCB#8, 0xB3#8, 0x12#8] = .ok (.res6E, 2) ∧
    decode [0xCB#8, 0xB4#8, 0x12#8] = .ok (.res6H, 2) ∧
    decode [0xCB#8, 0xB5#8, 0x12#8] = .ok (.res6L, 2) ∧
    decode [0xCB#8, 0xB6#8, 0x12#8] = .ok (.res6MemHl, 2) ∧
    decode [0xCB#8, 0xB7#8, 0x12#8] = .ok (.res6A, 2) ∧
    decode [0xCB#8, 0xB8#8, 0x12#8] = .ok (.res7B, 2) ∧
    decode [0xCB#8, 0xB9#8, 0x12#8] = .ok (.res7C, 2) ∧
    decode [0xCB#8, 0xBA#8, 0x12#8] = .ok (.res7D, 2) ∧
    decode [0xCB#8, 0xBB#8, 0x12#8] = .ok (.res7E, 2) ∧
    decode [0xCB#8, 0xBC#8, 0x12#8] = .ok (.res7H, 2) ∧
    decode [0xCB#8, 0xBD#8, 0x12#8] = .ok (.res7L, 2) ∧
    decode [0xCB#8, 0xBE#8, 0x12#8] = .ok (.res7MemHl, 2) ∧
    decode [0xCB#8, 0xBF#8, 0x12#8] = .ok (.res7A, 2) := by
  decide

theorem test_rows_cb_Cx :
    decode [0xCB#8, 0xC0#8, 0x12#8] = .ok (.set0B, 2) ∧
    decode [0xCB#8, 0xC1#8, 0x12#8] = .ok (.set0C, 2) ∧
    decode [0xCB#8, 0xC2#8, 0x12#8] = .ok (.set0D, 2) ∧
    decode [0xCB#8, 0xC3#8, 0x12#8] = .ok (.set0E, 2) ∧
    decode [0xCB#8, 0xC4#8, 0x12#8] = .ok (.set0H, 2) ∧
    decode [0xCB#8, 0xC5#8, 0x12#8] = .ok (.set0L, 2) ∧
    decode [0xCB#8, 0xC6#8, 0x12#8] = .ok (.set0MemHl, 2) ∧
    decode [0xCB#8, 0xC7#8, 0x12#8] = .ok (.set0A, 2) ∧
    decode [0xCB#8, 0xC8#8, 0x12#8] = .ok (.set1B, 2) ∧
    decode [0xCB#8, 0xC9#8, 0x12#8] = .ok (.set1C, 2) ∧
    decode [0xCB#8, 0xCA#8, 0x12#8] = .ok (.set1D, 2) ∧
    decode [0xCB#8, 0xCB#8, 0x12#8] = .ok (.set1E, 2) ∧
    decode [0xCB#8, 0xCC#8, 0x12#8] = .ok (.set1H, 2) ∧
    decode [0xCB#8, 0xCD#8, 0x12#8] = .ok (.set1L, 2) ∧
    decode [0xCB#8, 0xCE#8, 0x12#8] = .ok (.set1MemHl, 2) ∧
    decode [0xCB#8, 0xCF#8, 0x12#8] = .ok (.set1A, 2) := by
  decide

theorem test_rows_cb_Dx :
    decode [0xCB#8, 0xD0#8, 0x12#8] = .ok (.set2B, 2) ∧
    decode [0xCB#8, 0xD1#8, 0x12#8] = .ok (.set2C, 2) ∧
    decode [0xCB#8, 0xD2#8, 0x12#8] = .ok (.set2D, 2) ∧
    decode [0xCB#8, 0xD3#8, 0x12#8] = .ok (.set2E, 2) ∧
    decode [0xCB#8, 0xD4#8, 0x12#8] = .ok (.set2H, 2) ∧
    decode [0xCB#8, 0xD5#8, 0x12#8] = .ok (.set2L, 2) ∧
    decode [0xCB#8, 0xD6#8, 0x12#8] = .ok (.set2MemHl, 2) ∧
    decode [0xCB#8, 0xD7#8, 0x12#8] = .ok (.set2A, 2) ∧
    decode [0xCB#8, 0xD8#8, 0x12#8] = .ok (.set3B, 2) ∧
    decode [0xCB#8, 0xD9#8, 0x12#8] = .ok (.set3C, 2) ∧
    decode [0xCB#8, 0xDA#8, 0x12#8] = .ok (.set3D, 2) ∧
    decode [0xCB#8, 0xDB#8, 0x12#8] = .ok (.set3E, 2) ∧
    decode [0xCB#8, 0xDC#8, 0x12#8] = .ok (.set3H, 2) ∧
    decode [0xCB#8, 0xDD#8, 0x12#8] = .ok (.set3L, 2) ∧
    decode [0xCB#8, 0xDE#8, 0x12#8] = .ok (.set3MemHl, 2) ∧
    decode [0xCB#8, 0xDF#8, 0x12#8] = .ok (.set3A, 2) := by
  decide

theorem test_rows_cb_Ex :
    decode [0xCB#8, 0xE0#8, 0x12#8] = .ok (.set4B, 2) ∧
    decode [0xCB#8, 0xE1#8, 0x12#8] = .ok (.set4C, 2) ∧
    decode [0xCB#8, 0xE2#8, 0x12#8] = .ok (.set4D, 2) ∧
    decode [0xCB#8, 0xE3#8, 0x12#8] = .ok (.set4E, 2) ∧
    decode [0xCB#8, 0xE4#8, 0x12#8] = .ok (.set4H, 2) ∧
    decode [0xCB#8, 0xE5#8, 0x12#8] = .ok (.set4L, 2) ∧
    decode [0xCB#8, 0xE6#8, 0x12#8] = .ok (.set4MemHl, 2) ∧
    decode [0xCB#8, 0xE7#8, 0x12#8] = .ok (.set4A, 2) ∧
    decode [0xCB#8, 0xE8#8, 0x12#8] = .ok (.set5B, 2) ∧
    decode [0xCB#8, 0xE9#8, 0x12#8] = .ok (.set5C, 2) ∧
    decode [0xCB#8, 0xEA#8, 0x12#8] = .ok (.set5D, 2) ∧
    decode [0xCB#8, 0xEB#8, 0x12#8] = .ok (.set5E, 2) ∧
    decode [0xCB#8, 0xEC#8, 0x12#8] = .ok (.set5H, 2) ∧
    decode [0xCB#8, 0xED#8, 0x12#8] = .ok (.set5L, 2) ∧
    decode [0xCB#8, 0xEE#8, 0x12#8] = .ok (.set5MemHl, 2) ∧
    decode [0xCB#8, 0xEF#8, 0x12#8] = .ok (.set5A, 2) := by
  decide

theorem test_rows_cb_Fx :
    decode [0xCB#8, 0xF0#8, 0x12#8] = .ok (.set6B, 2) ∧
    decode [0xCB#8, 0xF1#8, 0x12#8] = .ok (.set6C, 2) ∧
    decode [0xCB#8, 0xF2#8, 0x12#8] = .ok (.set6D, 2) ∧
    decode [0xCB#8, 0xF3#8, 0x12#8] = .ok (.set6E, 2) ∧
    decode [0xCB#8, 0xF4#8, 0x12#8] = .ok (.set6H, 2) ∧
    decode [0xCB#8, 0xF5#8, 0x12#8] = .ok (.set6L, 2) ∧
    decode [0xCB#8, 0xF6#8, 0x12#8] = .ok (.set6MemHl, 2) ∧
    decode [0xCB#8, 0xF7#8, 0x12#8] = .ok (.set6A, 2) ∧
    decode [0xCB#8, 0xF8#8, 0x12#8] = .ok (.set7B, 2) ∧
    decode [0xCB#8, 0xF9#8, 0x12#8] = .ok (.set7C, 2) ∧
    decode [0xCB#8, 0xFA#8, 0x12#8] = .ok (.set7D, 2) ∧
    decode [0xCB#8, 0xFB#8, 0x12#8] = .ok (.set7E, 2) ∧
    decode [0xCB#8, 0xFC#8, 0x12#8] = .ok (.set7H, 2) ∧
    decode [0xCB#8, 0xFD#8, 0x12#8] = .ok (.set7L, 2) ∧
    decode [0xCB#8, 0xFE#8, 0x12#8] = .ok (.set7MemHl, 2) ∧
    decode [0xCB#8, 0xFF#8, 0x12#8] = .ok (.set7A, 2) := by
  decide

/-! ## Words written out bit by bit from the encodings (`spec/30_encoding.md` R81, R82) -/

/-- Control and accumulator rows, loads, moves: fields x, y, z of the opcode byte. -/
theorem test_bits_control_and_loads :
    decode [0b00_000_000#8] = .ok (.nop, 1) ∧ decode [0b00_010_000#8] = .ok (.stop, 1) ∧
    decode [0b01_110_110#8] = .ok (.halt, 1) ∧ decode [0b00_100_111#8] = .ok (.daa, 1) ∧
    decode [0b00_111_110#8, 0b01000010#8] = .ok (.ldAD8 0x42#8, 2) ∧
    decode [0b00_100_001#8, 0b00110100#8, 0b00010010#8] = .ok (.ldHlD16 0x1234#16, 3) ∧
    decode [0b01_000_111#8] = .ok (.ldBA, 1) ∧ decode [0b01_110_001#8] = .ok (.ldMemHlC, 1) ∧
    decode [0b00_001_010#8] = .ok (.ldAMemBc, 1) ∧ decode [0b00_110_010#8] = .ok (.ldMemHlDecA, 1) ∧
    decode [0b11_100_000#8, 0b01000000#8] = .ok (.ldhMemA8A 0x40#8, 2) ∧
    decode [0b11_110_101#8] = .ok (.pushAf, 1) ∧ decode [0b11_000_001#8] = .ok (.popBc, 1) := by decide

/-- Arithmetic, logic, increments, flow. -/
theorem test_bits_alu_and_flow :
    decode [0b10_010_001#8] = .ok (.subC, 1) ∧ decode [0b10_111_110#8] = .ok (.cpMemHl, 1) ∧
    decode [0b11_101_110#8, 0b11111111#8] = .ok (.xorD8 0xFF#8, 2) ∧
    decode [0b00_110_100#8] = .ok (.incMemHl, 1) ∧ decode [0b00_111_011#8] = .ok (.decSp, 1) ∧
    decode [0b00_101_001#8] = .ok (.addHlHl, 1) ∧ decode [0b11_101_000#8, 0b10000000#8] = .ok (.addSpE8 (-128), 2) ∧
    decode [0b00_011_000#8, 0b11111110#8] = .ok (.jrE8 (-2), 2) ∧
    decode [0b00_111_000#8, 0b01111111#8] = .ok (.jrCE8 127, 2) ∧
    decode [0b11_001_010#8, 0b00110100#8, 0b00010010#8] = .ok (.jpZA16 0x1234#16, 3) ∧
    decode [0b11_001_101#8, 0b00000000#8, 0b01000000#8] = .ok (.callA16 0x4000#16, 3) ∧
    decode [0b11_011_000#8] = .ok (.retC, 1) ∧ decode [0b11_101_111#8] = .ok (.rst28, 1) := by decide

/-- Extended rows: the escape byte, then fields x, y, z of the index. -/
theorem test_bits_extended :
    decode [0b11001011#8, 0b00_110_111#8] = .ok (.swapA, 2) ∧ decode [0b11001011#8, 0b00_001_000#8] = .ok (.rrcB, 2) ∧
    decode [0b11001011#8, 0b01_111_100#8] = .ok (.bit7H, 2) ∧ decode [0b11001011#8, 0b10_000_110#8] = .ok (.res0MemHl, 2) ∧
    decode [0b11001011#8, 0b11_001_011#8] = .ok (.set1E, 2) := by decide

/-! ## The host's words -/

/-- The table numbers a primary row by its opcode byte and an extended row by `256 * b0 + b1` (`spec/30_encoding.md`
R112); the other order of an extended row's bytes is read too (log entry 6). -/
theorem test_table_words :
    decodeTableWord 8 0x3E = some (.ldAD8 0x00#8) ∧ decodeTableWord 16 0xCB37 = some .swapA ∧
    decodeTableWord 16 0x37CB = some .swapA ∧ decodeTableWord 8 0xD3 = some (.undefined 0xD3#8) ∧
    decodeTableWord 24 0x1234C3 = some (.jpA16 0x1234#16) ∧ decodeTableWord 16 0x423E = some (.ldAD8 0x42#8) := by decide

/-- A fetch word is what the very next step runs. -/
theorem test_fetch_word :
    answer (step (State.reset.withFetchWord 16 0xCB37)) = some (.nextSome (.swap .a)) ∧
    answer (step (State.reset.withFetchWord 8 0x3E)) = some (.nextSome (.ldR8Imm .a 0x00#8)) ∧
    cursor (step (State.reset.withFetchWord 8 0xC3)) = some (3, .positioned) ∧
    cursor (step (State.reset.withFetchWord 8 0xDD)) = some (0, .exhausted) := by decide

/-! ## The spec's vectors, one `DECODE(0)` step each -/

/-- Vectors V50 to V62. -/
theorem test_vectors_v50_to_v62 :
    decodeAt [0x00#8] 0 = some (.decodeOk .nop 1) ∧
    decodeAt [0x10#8] 0 = some (.decodeOk .stop 1) ∧
    decodeAt [0x76#8] 0 = some (.decodeOk .halt 1) ∧
    decodeAt [0xF3#8] 0 = some (.decodeOk .di 1) ∧
    decodeAt [0xFB#8] 0 = some (.decodeOk .ei 1) ∧
    decodeAt [0xC9#8] 0 = some (.decodeOk .ret 1) ∧
    decodeAt [0xD9#8] 0 = some (.decodeOk .reti 1) ∧
    decodeAt [0xE9#8] 0 = some (.decodeOk .jpHl 1) ∧
    decodeAt [0xF9#8] 0 = some (.decodeOk .ldSpHl 1) ∧
    decodeAt [0x07#8] 0 = some (.decodeOk .rlca 1) ∧
    decodeAt [0x0F#8] 0 = some (.decodeOk .rrca 1) ∧
    decodeAt [0x17#8] 0 = some (.decodeOk .rla 1) ∧
    decodeAt [0x1F#8] 0 = some (.decodeOk .rra 1) := by
  decide

/-- Vectors V63 to V66. -/
theorem test_vectors_v63_to_v66 :
    decodeAt [0x27#8] 0 = some (.decodeOk .daa 1) ∧
    decodeAt [0x2F#8] 0 = some (.decodeOk .cpl 1) ∧
    decodeAt [0x37#8] 0 = some (.decodeOk .scf 1) ∧
    decodeAt [0x3F#8] 0 = some (.decodeOk .ccf 1) := by
  decide

/-- Vectors V70 to V82. -/
theorem test_vectors_v70_to_v82 :
    decodeAt [0x06#8, 0x00#8] 0 = some (.decodeOk (.ldR8Imm .b 0x00#8) 2) ∧
    decodeAt [0x0E#8, 0xFF#8] 0 = some (.decodeOk (.ldR8Imm .c 0xFF#8) 2) ∧
    decodeAt [0x36#8, 0x12#8] 0 = some (.decodeOk (.ldR8Imm .hlInd 0x12#8) 2) ∧
    decodeAt [0x3E#8, 0x42#8] 0 = some (.decodeOk (.ldR8Imm .a 0x42#8) 2) ∧
    decodeAt [0x01#8, 0x34#8, 0x12#8] 0 = some (.decodeOk (.ldR16Imm .bc 0x1234#16) 3) ∧
    decodeAt [0x11#8, 0x00#8, 0x80#8] 0 = some (.decodeOk (.ldR16Imm .de 0x8000#16) 3) ∧
    decodeAt [0x21#8, 0xFF#8, 0xFF#8] 0 = some (.decodeOk (.ldR16Imm .hl 0xFFFF#16) 3) ∧
    decodeAt [0x31#8, 0xFE#8, 0xFF#8] 0 = some (.decodeOk (.ldR16Imm .sp 0xFFFE#16) 3) ∧
    decodeAt [0x40#8] 0 = some (.decodeOk (.ldR8R8 .b .b) 1) ∧
    decodeAt [0x41#8] 0 = some (.decodeOk (.ldR8R8 .b .c) 1) ∧
    decodeAt [0x46#8] 0 = some (.decodeOk (.ldR8R8 .b .hlInd) 1) ∧
    decodeAt [0x66#8] 0 = some (.decodeOk (.ldR8R8 .h .hlInd) 1) ∧
    decodeAt [0x70#8] 0 = some (.decodeOk (.ldR8R8 .hlInd .b) 1) := by
  decide

/-- Vectors V83 to V95. -/
theorem test_vectors_v83_to_v95 :
    decodeAt [0x75#8] 0 = some (.decodeOk (.ldR8R8 .hlInd .l) 1) ∧
    decodeAt [0x77#8] 0 = some (.decodeOk (.ldR8R8 .hlInd .a) 1) ∧
    decodeAt [0x7E#8] 0 = some (.decodeOk (.ldR8R8 .a .hlInd) 1) ∧
    decodeAt [0x7F#8] 0 = some (.decodeOk (.ldR8R8 .a .a) 1) ∧
    decodeAt [0x02#8] 0 = some (.decodeOk (.stAInd .bc) 1) ∧
    decodeAt [0x12#8] 0 = some (.decodeOk (.stAInd .de) 1) ∧
    decodeAt [0x0A#8] 0 = some (.decodeOk (.ldAInd .bc) 1) ∧
    decodeAt [0x1A#8] 0 = some (.decodeOk (.ldAInd .de) 1) ∧
    decodeAt [0x22#8] 0 = some (.decodeOk .stAHli 1) ∧
    decodeAt [0x32#8] 0 = some (.decodeOk .stAHld 1) ∧
    decodeAt [0x2A#8] 0 = some (.decodeOk .ldAHli 1) ∧
    decodeAt [0x3A#8] 0 = some (.decodeOk .ldAHld 1) ∧
    decodeAt [0xE0#8, 0x40#8] 0 = some (.decodeOk (.stAHigh 0x40#8) 2) := by
  decide

/-- Vectors V96 to V108. -/
theorem test_vectors_v96_to_v108 :
    decodeAt [0xE0#8, 0xFF#8] 0 = some (.decodeOk (.stAHigh 0xFF#8) 2) ∧
    decodeAt [0xF0#8, 0x44#8] 0 = some (.decodeOk (.ldAHigh 0x44#8) 2) ∧
    decodeAt [0xE2#8] 0 = some (.decodeOk .stAHighC 1) ∧
    decodeAt [0xF2#8] 0 = some (.decodeOk .ldAHighC 1) ∧
    decodeAt [0xEA#8, 0x00#8, 0xC0#8] 0 = some (.decodeOk (.stAAbs 0xC000#16) 3) ∧
    decodeAt [0xFA#8, 0x34#8, 0x12#8] 0 = some (.decodeOk (.ldAAbs 0x1234#16) 3) ∧
    decodeAt [0x08#8, 0x11#8, 0x1F#8] 0 = some (.decodeOk (.stSpAbs 0x1F11#16) 3) ∧
    decodeAt [0xF8#8, 0x00#8] 0 = some (.decodeOk (.ldHlSpOff 0) 2) ∧
    decodeAt [0xF8#8, 0x7F#8] 0 = some (.decodeOk (.ldHlSpOff 127) 2) ∧
    decodeAt [0xF8#8, 0x80#8] 0 = some (.decodeOk (.ldHlSpOff (-128)) 2) ∧
    decodeAt [0xF8#8, 0xFF#8] 0 = some (.decodeOk (.ldHlSpOff (-1)) 2) ∧
    decodeAt [0xC5#8] 0 = some (.decodeOk (.push .bc) 1) ∧
    decodeAt [0xD5#8] 0 = some (.decodeOk (.push .de) 1) := by
  decide

/-- Vectors V109 to V114. -/
theorem test_vectors_v109_to_v114 :
    decodeAt [0xE5#8] 0 = some (.decodeOk (.push .hl) 1) ∧
    decodeAt [0xF5#8] 0 = some (.decodeOk (.push .af) 1) ∧
    decodeAt [0xC1#8] 0 = some (.decodeOk (.pop .bc) 1) ∧
    decodeAt [0xD1#8] 0 = some (.decodeOk (.pop .de) 1) ∧
    decodeAt [0xE1#8] 0 = some (.decodeOk (.pop .hl) 1) ∧
    decodeAt [0xF1#8] 0 = some (.decodeOk (.pop .af) 1) := by
  decide

/-- Vectors V120 to V132. -/
theorem test_vectors_v120_to_v132 :
    decodeAt [0x80#8] 0 = some (.decodeOk (.add .b) 1) ∧
    decodeAt [0x86#8] 0 = some (.decodeOk (.add .hlInd) 1) ∧
    decodeAt [0x87#8] 0 = some (.decodeOk (.add .a) 1) ∧
    decodeAt [0x88#8] 0 = some (.decodeOk (.adc .b) 1) ∧
    decodeAt [0x8E#8] 0 = some (.decodeOk (.adc .hlInd) 1) ∧
    decodeAt [0x90#8] 0 = some (.decodeOk (.sub .b) 1) ∧
    decodeAt [0x97#8] 0 = some (.decodeOk (.sub .a) 1) ∧
    decodeAt [0x98#8] 0 = some (.decodeOk (.sbc .b) 1) ∧
    decodeAt [0x9E#8] 0 = some (.decodeOk (.sbc .hlInd) 1) ∧
    decodeAt [0xA0#8] 0 = some (.decodeOk (.and .b) 1) ∧
    decodeAt [0xA6#8] 0 = some (.decodeOk (.and .hlInd) 1) ∧
    decodeAt [0xAF#8] 0 = some (.decodeOk (.xor .a) 1) ∧
    decodeAt [0xB0#8] 0 = some (.decodeOk (.or .b) 1) := by
  decide

/-- Vectors V133 to V145. -/
theorem test_vectors_v133_to_v145 :
    decodeAt [0xB7#8] 0 = some (.decodeOk (.or .a) 1) ∧
    decodeAt [0xB8#8] 0 = some (.decodeOk (.cp .b) 1) ∧
    decodeAt [0xBE#8] 0 = some (.decodeOk (.cp .hlInd) 1) ∧
    decodeAt [0xBF#8] 0 = some (.decodeOk (.cp .a) 1) ∧
    decodeAt [0xC6#8, 0xFF#8] 0 = some (.decodeOk (.addImm 0xFF#8) 2) ∧
    decodeAt [0xCE#8, 0xED#8] 0 = some (.decodeOk (.adcImm 0xED#8) 2) ∧
    decodeAt [0xD6#8, 0x01#8] 0 = some (.decodeOk (.subImm 0x01#8) 2) ∧
    decodeAt [0xDE#8, 0x00#8] 0 = some (.decodeOk (.sbcImm 0x00#8) 2) ∧
    decodeAt [0xE6#8, 0x0F#8] 0 = some (.decodeOk (.andImm 0x0F#8) 2) ∧
    decodeAt [0xEE#8, 0xFF#8] 0 = some (.decodeOk (.xorImm 0xFF#8) 2) ∧
    decodeAt [0xF6#8, 0x80#8] 0 = some (.decodeOk (.orImm 0x80#8) 2) ∧
    decodeAt [0xFE#8, 0x90#8] 0 = some (.decodeOk (.cpImm 0x90#8) 2) ∧
    decodeAt [0x04#8] 0 = some (.decodeOk (.inc8 .b) 1) := by
  decide

/-- Vectors V146 to V158. -/
theorem test_vectors_v146_to_v158 :
    decodeAt [0x0C#8] 0 = some (.decodeOk (.inc8 .c) 1) ∧
    decodeAt [0x14#8] 0 = some (.decodeOk (.inc8 .d) 1) ∧
    decodeAt [0x1C#8] 0 = some (.decodeOk (.inc8 .e) 1) ∧
    decodeAt [0x24#8] 0 = some (.decodeOk (.inc8 .h) 1) ∧
    decodeAt [0x2C#8] 0 = some (.decodeOk (.inc8 .l) 1) ∧
    decodeAt [0x34#8] 0 = some (.decodeOk (.inc8 .hlInd) 1) ∧
    decodeAt [0x3C#8] 0 = some (.decodeOk (.inc8 .a) 1) ∧
    decodeAt [0x05#8] 0 = some (.decodeOk (.dec8 .b) 1) ∧
    decodeAt [0x0D#8] 0 = some (.decodeOk (.dec8 .c) 1) ∧
    decodeAt [0x15#8] 0 = some (.decodeOk (.dec8 .d) 1) ∧
    decodeAt [0x1D#8] 0 = some (.decodeOk (.dec8 .e) 1) ∧
    decodeAt [0x25#8] 0 = some (.decodeOk (.dec8 .h) 1) ∧
    decodeAt [0x2D#8] 0 = some (.decodeOk (.dec8 .l) 1) := by
  decide

/-- Vectors V159 to V171. -/
theorem test_vectors_v159_to_v171 :
    decodeAt [0x35#8] 0 = some (.decodeOk (.dec8 .hlInd) 1) ∧
    decodeAt [0x3D#8] 0 = some (.decodeOk (.dec8 .a) 1) ∧
    decodeAt [0x03#8] 0 = some (.decodeOk (.inc16 .bc) 1) ∧
    decodeAt [0x13#8] 0 = some (.decodeOk (.inc16 .de) 1) ∧
    decodeAt [0x23#8] 0 = some (.decodeOk (.inc16 .hl) 1) ∧
    decodeAt [0x33#8] 0 = some (.decodeOk (.inc16 .sp) 1) ∧
    decodeAt [0x0B#8] 0 = some (.decodeOk (.dec16 .bc) 1) ∧
    decodeAt [0x1B#8] 0 = some (.decodeOk (.dec16 .de) 1) ∧
    decodeAt [0x2B#8] 0 = some (.decodeOk (.dec16 .hl) 1) ∧
    decodeAt [0x3B#8] 0 = some (.decodeOk (.dec16 .sp) 1) ∧
    decodeAt [0x09#8] 0 = some (.decodeOk (.addHl .bc) 1) ∧
    decodeAt [0x19#8] 0 = some (.decodeOk (.addHl .de) 1) ∧
    decodeAt [0x29#8] 0 = some (.decodeOk (.addHl .hl) 1) := by
  decide

/-- Vectors V172 to V176. -/
theorem test_vectors_v172_to_v176 :
    decodeAt [0x39#8] 0 = some (.decodeOk (.addHl .sp) 1) ∧
    decodeAt [0xE8#8, 0x00#8] 0 = some (.decodeOk (.addSpOff 0) 2) ∧
    decodeAt [0xE8#8, 0x7F#8] 0 = some (.decodeOk (.addSpOff 127) 2) ∧
    decodeAt [0xE8#8, 0x80#8] 0 = some (.decodeOk (.addSpOff (-128)) 2) ∧
    decodeAt [0xE8#8, 0xFF#8] 0 = some (.decodeOk (.addSpOff (-1)) 2) := by
  decide

/-- Vectors V180 to V192. -/
theorem test_vectors_v180_to_v192 :
    decodeAt [0x18#8, 0x00#8] 0 = some (.decodeOk (.jr 0) 2) ∧
    decodeAt [0x18#8, 0xFE#8] 0 = some (.decodeOk (.jr (-2)) 2) ∧
    decodeAt [0x18#8, 0x7F#8] 0 = some (.decodeOk (.jr 127) 2) ∧
    decodeAt [0x18#8, 0x80#8] 0 = some (.decodeOk (.jr (-128)) 2) ∧
    decodeAt [0x20#8, 0xFC#8] 0 = some (.decodeOk (.jrCc .nz (-4)) 2) ∧
    decodeAt [0x28#8, 0x02#8] 0 = some (.decodeOk (.jrCc .z 2) 2) ∧
    decodeAt [0x30#8, 0xFF#8] 0 = some (.decodeOk (.jrCc .nc (-1)) 2) ∧
    decodeAt [0x38#8, 0x80#8] 0 = some (.decodeOk (.jrCc .c (-128)) 2) ∧
    decodeAt [0xC3#8, 0x50#8, 0x01#8] 0 = some (.decodeOk (.jp 0x0150#16) 3) ∧
    decodeAt [0xC3#8, 0xFF#8, 0xFF#8] 0 = some (.decodeOk (.jp 0xFFFF#16) 3) ∧
    decodeAt [0xC2#8, 0x00#8, 0x01#8] 0 = some (.decodeOk (.jpCc .nz 0x0100#16) 3) ∧
    decodeAt [0xCA#8, 0x34#8, 0x12#8] 0 = some (.decodeOk (.jpCc .z 0x1234#16) 3) ∧
    decodeAt [0xD2#8, 0x00#8, 0x00#8] 0 = some (.decodeOk (.jpCc .nc 0x0000#16) 3) := by
  decide

/-- Vectors V193 to V205. -/
theorem test_vectors_v193_to_v205 :
    decodeAt [0xDA#8, 0xFF#8, 0xFF#8] 0 = some (.decodeOk (.jpCc .c 0xFFFF#16) 3) ∧
    decodeAt [0xCD#8, 0x34#8, 0x12#8] 0 = some (.decodeOk (.call 0x1234#16) 3) ∧
    decodeAt [0xC4#8, 0x00#8, 0x40#8] 0 = some (.decodeOk (.callCc .nz 0x4000#16) 3) ∧
    decodeAt [0xCC#8, 0x0D#8, 0x00#8] 0 = some (.decodeOk (.callCc .z 0x000D#16) 3) ∧
    decodeAt [0xD4#8, 0xCB#8, 0xCB#8] 0 = some (.decodeOk (.callCc .nc 0xCBCB#16) 3) ∧
    decodeAt [0xDC#8, 0xDD#8, 0xDD#8] 0 = some (.decodeOk (.callCc .c 0xDDDD#16) 3) ∧
    decodeAt [0xC0#8] 0 = some (.decodeOk (.retCc .nz) 1) ∧
    decodeAt [0xC8#8] 0 = some (.decodeOk (.retCc .z) 1) ∧
    decodeAt [0xD0#8] 0 = some (.decodeOk (.retCc .nc) 1) ∧
    decodeAt [0xD8#8] 0 = some (.decodeOk (.retCc .c) 1) ∧
    decodeAt [0xC7#8] 0 = some (.decodeOk (.rst 0x00#8) 1) ∧
    decodeAt [0xCF#8] 0 = some (.decodeOk (.rst 0x08#8) 1) ∧
    decodeAt [0xD7#8] 0 = some (.decodeOk (.rst 0x10#8) 1) := by
  decide

/-- Vectors V206 to V210. -/
theorem test_vectors_v206_to_v210 :
    decodeAt [0xDF#8] 0 = some (.decodeOk (.rst 0x18#8) 1) ∧
    decodeAt [0xE7#8] 0 = some (.decodeOk (.rst 0x20#8) 1) ∧
    decodeAt [0xEF#8] 0 = some (.decodeOk (.rst 0x28#8) 1) ∧
    decodeAt [0xF7#8] 0 = some (.decodeOk (.rst 0x30#8) 1) ∧
    decodeAt [0xFF#8] 0 = some (.decodeOk (.rst 0x38#8) 1) := by
  decide

/-- Vectors V220 to V232. -/
theorem test_vectors_v220_to_v232 :
    decodeAt [0xCB#8, 0x00#8] 0 = some (.decodeOk (.rlc .b) 2) ∧
    decodeAt [0xCB#8, 0x06#8] 0 = some (.decodeOk (.rlc .hlInd) 2) ∧
    decodeAt [0xCB#8, 0x07#8] 0 = some (.decodeOk (.rlc .a) 2) ∧
    decodeAt [0xCB#8, 0x08#8] 0 = some (.decodeOk (.rrc .b) 2) ∧
    decodeAt [0xCB#8, 0x0F#8] 0 = some (.decodeOk (.rrc .a) 2) ∧
    decodeAt [0xCB#8, 0x10#8] 0 = some (.decodeOk (.rl .b) 2) ∧
    decodeAt [0xCB#8, 0x17#8] 0 = some (.decodeOk (.rl .a) 2) ∧
    decodeAt [0xCB#8, 0x18#8] 0 = some (.decodeOk (.rr .b) 2) ∧
    decodeAt [0xCB#8, 0x1F#8] 0 = some (.decodeOk (.rr .a) 2) ∧
    decodeAt [0xCB#8, 0x20#8] 0 = some (.decodeOk (.sla .b) 2) ∧
    decodeAt [0xCB#8, 0x27#8] 0 = some (.decodeOk (.sla .a) 2) ∧
    decodeAt [0xCB#8, 0x28#8] 0 = some (.decodeOk (.sra .b) 2) ∧
    decodeAt [0xCB#8, 0x2F#8] 0 = some (.decodeOk (.sra .a) 2) := by
  decide

/-- Vectors V233 to V245. -/
theorem test_vectors_v233_to_v245 :
    decodeAt [0xCB#8, 0x30#8] 0 = some (.decodeOk (.swap .b) 2) ∧
    decodeAt [0xCB#8, 0x36#8] 0 = some (.decodeOk (.swap .hlInd) 2) ∧
    decodeAt [0xCB#8, 0x37#8] 0 = some (.decodeOk (.swap .a) 2) ∧
    decodeAt [0xCB#8, 0x38#8] 0 = some (.decodeOk (.srl .b) 2) ∧
    decodeAt [0xCB#8, 0x3F#8] 0 = some (.decodeOk (.srl .a) 2) ∧
    decodeAt [0xCB#8, 0x40#8] 0 = some (.decodeOk (.bit 0 .b) 2) ∧
    decodeAt [0xCB#8, 0x46#8] 0 = some (.decodeOk (.bit 0 .hlInd) 2) ∧
    decodeAt [0xCB#8, 0x47#8] 0 = some (.decodeOk (.bit 0 .a) 2) ∧
    decodeAt [0xCB#8, 0x78#8] 0 = some (.decodeOk (.bit 7 .b) 2) ∧
    decodeAt [0xCB#8, 0x7C#8] 0 = some (.decodeOk (.bit 7 .h) 2) ∧
    decodeAt [0xCB#8, 0x7E#8] 0 = some (.decodeOk (.bit 7 .hlInd) 2) ∧
    decodeAt [0xCB#8, 0x7F#8] 0 = some (.decodeOk (.bit 7 .a) 2) ∧
    decodeAt [0xCB#8, 0x80#8] 0 = some (.decodeOk (.res 0 .b) 2) := by
  decide

/-- Vectors V246 to V254. -/
theorem test_vectors_v246_to_v254 :
    decodeAt [0xCB#8, 0x86#8] 0 = some (.decodeOk (.res 0 .hlInd) 2) ∧
    decodeAt [0xCB#8, 0x87#8] 0 = some (.decodeOk (.res 0 .a) 2) ∧
    decodeAt [0xCB#8, 0xBE#8] 0 = some (.decodeOk (.res 7 .hlInd) 2) ∧
    decodeAt [0xCB#8, 0xBF#8] 0 = some (.decodeOk (.res 7 .a) 2) ∧
    decodeAt [0xCB#8, 0xC0#8] 0 = some (.decodeOk (.set 0 .b) 2) ∧
    decodeAt [0xCB#8, 0xCB#8] 0 = some (.decodeOk (.set 1 .e) 2) ∧
    decodeAt [0xCB#8, 0xDD#8] 0 = some (.decodeOk (.set 3 .l) 2) ∧
    decodeAt [0xCB#8, 0xFE#8] 0 = some (.decodeOk (.set 7 .hlInd) 2) ∧
    decodeAt [0xCB#8, 0xFF#8] 0 = some (.decodeOk (.set 7 .a) 2) := by
  decide

/-- V10 to V12, V15, V40, V41: reads at and past the end of the buffer. -/
theorem test_vectors_readers :
    (romOf [0x3E#8, 0x42#8]).readU8 0 = .ok (0x3E#8, 1) ∧ (romOf [0x3E#8, 0x42#8]).readU8 1 = .ok (0x42#8, 2) ∧
    (romOf [0x3E#8, 0x42#8]).readU8 2 = .error .outOfData ∧ (romOf [0x3E#8, 0x42#8]).readU8 7 = .error .outOfData ∧
    (romOf [0xC3#8, 0x34#8, 0x12#8]).readU16 1 .le = .ok (0x1234#16, 3) ∧
    (romOf [0xC3#8, 0x34#8, 0x12#8]).readU16 1 .be = .ok (0x3412#16, 3) ∧
    (romOf [0xC3#8, 0x34#8, 0x12#8]).readU16 2 .le = .error .outOfData ∧
    (romOf [0xC3#8, 0x34#8, 0x12#8]).readBytes 3 0 = .ok ([], 3) ∧
    (romOf []).skip 0 0x104 = .error .outOfData ∧
    decodeAt [] 0 = some (.decodeErr .outOfData) ∧ decodeAt [0x00#8, 0x00#8] 2 = some (.decodeErr .outOfData) ∧
    decodeAt [0x00#8, 0x00#8] 5 = some (.decodeErr .outOfData) ∧ decodeAt [0xCB#8] 0 = some (.decodeErr .outOfData) ∧
    decodeAt [0x00#8, 0xCB#8] 1 = some (.decodeErr .outOfData) := by decide

/-- V14: text is valid below 0x80, NUL bytes kept, and existence is checked before validity. -/
theorem test_vectors_text :
    (romOf (0x54#8 :: List.replicate 14 0x7F#8)).readText 0 15 = .ok (0x54#8 :: List.replicate 14 0x7F#8, 15) ∧
    (romOf (List.replicate 14 0x00#8 ++ [0x80#8])).readText 0 15 = .error .invalidText ∧
    (romOf (List.replicate 14 0xFF#8)).readText 0 15 = .error .outOfData := by decide

/-- V42, V43, V45 to V48: the index byte of an escape form, undefined bytes, operand bytes, wrong boundaries. -/
theorem test_vectors_decoder_top :
    decodeAt [0xCB#8, 0xD3#8] 0 = some (.decodeOk (.set 2 .e) 2) ∧
    decodeAt [0xD3#8, 0xCB#8] 0 = some (.decodeErr (.undefinedOpcode 0xD3#8)) ∧
    decodeAt [0xDD#8] 0 = some (.decodeErr (.undefinedOpcode 0xDD#8)) ∧
    decodeAt [0xDD#8, 0x00#8, 0x00#8] 0 = some (.decodeErr (.undefinedOpcode 0xDD#8)) ∧
    decodeAt [0xE2#8, 0x40#8] 0 = some (.decodeOk .stAHighC 1) ∧ decodeAt [0x10#8, 0x00#8] 0 = some (.decodeOk .stop 1) ∧
    decodeAt [0x10#8, 0x00#8] 1 = some (.decodeOk .nop 1) ∧
    decodeAt [0x3E#8, 0xCB#8] 0 = some (.decodeOk (.ldR8Imm .a 0xCB#8) 2) ∧
    decodeAt [0xC3#8, 0xDD#8, 0xFD#8] 0 = some (.decodeOk (.jp 0xFDDD#16) 3) ∧
    decodeAt [0xFF#8, 0xFF#8, 0x3E#8, 0x42#8] 2 = some (.decodeOk (.ldR8Imm .a 0x42#8) 2) ∧
    decodeAt [0xC3#8, 0x00#8, 0x3E#8, 0x76#8] 2 = some (.decodeOk (.ldR8Imm .a 0x76#8) 2) ∧
    decodeAt [0xC3#8, 0x00#8, 0x3E#8, 0x76#8] 3 = some (.decodeOk .halt 1) := by decide

/-- V44: truncated operands. -/
theorem test_vectors_truncated :
    decodeAt [0x3E#8] 0 = some (.decodeErr .outOfData) ∧ decodeAt [0xC3#8] 0 = some (.decodeErr .outOfData) ∧
    decodeAt [0xC3#8, 0x34#8] 0 = some (.decodeErr .outOfData) ∧ decodeAt [0x18#8] 0 = some (.decodeErr .outOfData) ∧
    decodeAt [0xE0#8] 0 = some (.decodeErr .outOfData) ∧ decodeAt [0x08#8, 0x11#8] 0 = some (.decodeErr .outOfData) ∧
    decodeAt [0x00#8, 0xC3#8, 0x34#8] 1 = some (.decodeErr .outOfData) ∧
    decodeAt [0x00#8, 0xC3#8, 0x34#8] 0 = some (.decodeOk .nop 1) := by decide

/-- V16: ROM bank counts, and the failing neighbours. -/
theorem test_vectors_rom_banks :
    romBanksOf 0x00#8 = .ok 2 ∧ romBanksOf 0x04#8 = .ok 32 ∧ romBanksOf 0x08#8 = .ok 512 ∧ romBanksOf 0x52#8 = .ok 72 ∧
    romBanksOf 0x53#8 = .ok 80 ∧ romBanksOf 0x54#8 = .ok 96 ∧ romBanksOf 0x09#8 = .error (.unknownRomSize 0x09#8) ∧
    romBanksOf 0x51#8 = .error (.unknownRomSize 0x51#8) ∧ romBanksOf 0x55#8 = .error (.unknownRomSize 0x55#8) := by decide

/-- V17: RAM geometry, and the failing neighbours. -/
theorem test_vectors_ram_geometry :
    ramGeomOf 0x00#8 = .ok (0, 0) ∧ ramGeomOf 0x01#8 = .ok (1, 2048) ∧ ramGeomOf 0x02#8 = .ok (1, 8192) ∧
    ramGeomOf 0x03#8 = .ok (4, 8192) ∧ ramGeomOf 0x04#8 = .ok (16, 8192) ∧ ramGeomOf 0x05#8 = .ok (8, 8192) ∧
    ramGeomOf 0x06#8 = .error (.unknownRamSize 0x06#8) ∧ ramGeomOf 0xFF#8 = .error (.unknownRamSize 0xFF#8) := by decide

/-! ### The header of V20 -/

/-- The 48 bytes of `spec/41_header.md` R155. -/
def logoBytes : List Byte :=
  [0xCE#8, 0xED#8, 0x66#8, 0x66#8, 0xCC#8, 0x0D#8, 0x00#8, 0x0B#8, 0x03#8, 0x73#8, 0x00#8, 0x83#8, 0x00#8, 0x0C#8, 0x00#8, 0x0D#8] ++
  [0x00#8, 0x08#8, 0x11#8, 0x1F#8, 0x88#8, 0x89#8, 0x00#8, 0x0E#8, 0xDC#8, 0xCC#8, 0x6E#8, 0xE6#8, 0xDD#8, 0xDD#8, 0xD9#8, 0x99#8] ++
  [0xBB#8, 0xBB#8, 0x67#8, 0x63#8, 0x6E#8, 0x0E#8, 0xEC#8, 0xCC#8, 0xDD#8, 0xDC#8, 0x99#8, 0x9F#8, 0xBB#8, 0xB9#8, 0x33#8, 0x3E#8]

/-- "TESTROM" and eight NUL bytes. -/
def titleBytes : List Byte :=
  [0x54#8, 0x45#8, 0x53#8, 0x54#8, 0x52#8, 0x4F#8, 0x4D#8] ++ List.replicate 8 0x00#8

/-- V20's bytes from 0x100 on. -/
def v20Bytes : List Byte :=
  [0x00#8, 0xC3#8, 0x50#8, 0x01#8] ++ logoBytes ++ titleBytes ++
  [0x80#8, 0x30#8, 0x31#8, 0x03#8, 0x13#8, 0x05#8, 0x03#8, 0x01#8, 0x33#8, 0x00#8, 0x86#8, 0x1D#8, 0x62#8] ++
  [0xF3#8, 0x31#8, 0xFE#8, 0xFF#8]

/-- The bytes with the one at an offset replaced. -/
def patch (bytes : List Byte) (edits : List (Nat × Byte)) : List Byte :=
  edits.foldl (fun bs edit => bs.set (edit.1 - 0x100) edit.2) bytes

/-- V20's buffer cut to `len` bytes, with some bytes replaced, asked for `PARSE_HEADER`. -/
def v20 (edits : List (Nat × Byte)) (len : Nat) : State :=
  { State.reset with
    rom := Memory.writeBytes [] 0x100 ((patch v20Bytes edits).take (len - 0x100))
    len := len
    requests := [.parseHeader] }

/-- The record of V20. -/
def v20Record : HeaderRecord where
  fingerprint := logoBytes
  title := titleBytes
  color := true
  newLicensee := [0x30#8, 0x31#8]
  super := true
  cartType := { raw := 0x13#8 }
  romBanks := 64
  ramBanks := 4
  ramBankSize := 8192
  japanese := false
  oldLicensee := 0x33#8
  maskRomVersion := 0x00#8
  complement := 0x86#8
  checksum := 0x1D62#16

/-- V20, V21. -/
theorem test_vector_v20 : answer (step (v20 [] 0x154)) = some (.headerOk v20Record) ∧
    answer (step (v20 [] 0x150)) = some (.headerOk v20Record) := by decide +kernel

/-- V22, V23: one byte short, and short buffers with nothing bad in them. -/
theorem test_vectors_short_header :
    answer (step (v20 [] 0x14F)) = some (.headerErr .outOfData) ∧ answer (step (v20 [] 0x148)) = some (.headerErr .outOfData) ∧
    answer (step (v20 [] 0x134)) = some (.headerErr .outOfData) ∧ answer (step (v20 [] 0x104)) = some (.headerErr .outOfData) ∧
    answer (step (v20 [] 0x103)) = some (.headerErr .outOfData) ∧ answer (step (v20 [] 0)) = some (.headerErr .outOfData) := by
  decide +kernel

/-- V24 to V27: a bad byte present in a short buffer is reported, the first in field order. -/
theorem test_vectors_bad_header :
    answer (step (v20 [(0x134, 0xC9#8)] 0x143)) = some (.headerErr .invalidText) ∧
    answer (step (v20 [(0x134, 0xC9#8)] 0x142)) = some (.headerErr .outOfData) ∧
    answer (step (v20 [(0x148, 0x09#8)] 0x149)) = some (.headerErr (.unknownRomSize 0x09#8)) ∧
    answer (step (v20 [(0x148, 0x09#8)] 0x148)) = some (.headerErr .outOfData) ∧
    answer (step (v20 [(0x148, 0x09#8), (0x134, 0xC9#8)] 0x149)) = some (.headerErr .invalidText) ∧
    answer (step (v20 [(0x149, 0x06#8)] 0x14A)) = some (.headerErr (.unknownRamSize 0x06#8)) ∧
    answer (step (v20 [(0x149, 0x06#8)] 0x149)) = some (.headerErr .outOfData) ∧
    answer (step (v20 [(0x149, 0x06#8), (0x148, 0x09#8)] 0x14A)) = some (.headerErr (.unknownRomSize 0x09#8)) ∧
    answer (step (v20 [(0x13A, 0x80#8), (0x148, 0xFF#8), (0x149, 0xFF#8)] 0x154)) = some (.headerErr .invalidText) := by
  decide +kernel

/-- V28: bytes that cannot fail. -/
theorem test_vectors_v28 :
    answer (step (v20 [(0x143, 0xC0#8)] 0x154)) = some (.headerOk { v20Record with color := false }) ∧
    answer (step (v20 [(0x146, 0x00#8)] 0x154)) = some (.headerOk { v20Record with super := false }) ∧
    answer (step (v20 [(0x14A, 0x00#8)] 0x154)) = some (.headerOk { v20Record with japanese := true }) ∧
    answer (step (v20 [(0x147, 0xEE#8)] 0x154)) = some (.headerOk { v20Record with cartType := { raw := 0xEE#8 } }) ∧
    answer (step (v20 [(0x144, 0xFF#8), (0x145, 0xFF#8)] 0x154)) =
      some (.headerOk { v20Record with newLicensee := [0xFF#8, 0xFF#8] }) := by decide +kernel

/-- A record with a fingerprint, a super flag and an old licensee byte, asked to be validated. -/
def validating (fingerprint : List Byte) (super : Bool) (oldLicensee : Byte) : State :=
  { State.reset with requests := [.validate { v20Record with fingerprint, super, oldLicensee }] }

/-- V30, V31, V34, V36: passing fingerprints. -/
theorem test_vectors_valid :
    answer (step (validating logoBytes false 0x01#8)) = some .valid ∧
    answer (step (validating ([0xFF#8, 0x00#8] ++ List.replicate 42 0x73#8 ++ [0x78#8, 0x78#8, 0x79#8, 0x00#8]) false 0x00#8)) =
      some .valid ∧
    answer (step (validating ([0xED#8, 0xCE#8] ++ logoBytes.drop 2) false 0x33#8)) = some .valid ∧
    answer (step (validating logoBytes true 0x33#8)) = some .valid := by decide +kernel

/-- V32, V33, V35, V37 to V39: each check matters, and the fingerprint comes first. -/
theorem test_vectors_invalid :
    answer (step (validating (List.replicate 48 0xFF#8) false 0x33#8)) = some (.invalid .logoMismatch) ∧
    answer (step (validating (0xCF#8 :: logoBytes.drop 1) false 0x33#8)) = some (.invalid .logoMismatch) ∧
    answer (step (validating (List.replicate 48 0x00#8) true 0x01#8)) = some (.invalid .logoMismatch) ∧
    answer (step (validating logoBytes true 0x32#8)) = some (.invalid .licenseeMismatch) ∧
    answer (step (validating ([0xD0#8, 0xEB#8] ++ logoBytes.drop 2) false 0x33#8)) = some (.invalid .logoMismatch) ∧
    answer (step (validating ([0xFF#8, 0x00#8] ++ List.replicate 40 0x73#8 ++ [0x74#8, 0x74#8, 0x78#8, 0x78#8, 0x79#8, 0x00#8])
      false 0x33#8)) = some (.invalid .logoMismatch) := by decide +kernel

/-! ### The cursor -/

/-- V260: `INIT` up to and beyond `LEN`. -/
theorem test_vector_v260 :
    cursor (step (asking (List.replicate 4 0x00#8) (.init 3))) = some (3, .positioned) ∧
    cursor (step (asking (List.replicate 4 0x00#8) (.init 4))) = some (4, .positioned) ∧
    cursor (step (asking (List.replicate 4 0x00#8) (.init 5))) = some (4, .exhausted) ∧
    causeOf (step (asking (List.replicate 4 0x00#8) (.init 1000))) = some .outOfData := by decide

/-- V5: one `Nop`, then the undefined byte ends the sequence. -/
theorem test_vector_v5 :
    answer (step (cursorAt [0x00#8, 0xDD#8] 0 .positioned .outOfData .next)) = some (.nextSome .nop) ∧
    cursor (step (cursorAt [0x00#8, 0xDD#8] 0 .positioned .outOfData .next)) = some (1, .positioned) ∧
    answer (step (cursorAt [0x00#8, 0xDD#8] 1 .positioned .outOfData .next)) = some .nextNone ∧
    cursor (step (cursorAt [0x00#8, 0xDD#8] 1 .positioned .outOfData .next)) = some (1, .exhausted) ∧
    causeOf (step (cursorAt [0x00#8, 0xDD#8] 1 .positioned .outOfData .next)) = some (.undefinedOpcode 0xDD#8) := by decide

/-- V262, V263, V264: the clean end, `NEXT_E`'s answers, an instruction cut off. -/
theorem test_vectors_endings :
    answer (step (cursorAt [0x00#8] 1 .positioned .invalidText .nextE)) = some (.ended .outOfData) ∧
    answer (step (cursorAt [0x00#8, 0x3E#8, 0x42#8, 0xDD#8] 1 .positioned .outOfData .nextE)) =
      some (.item (.ldR8Imm .a 0x42#8)) ∧
    answer (step (cursorAt [0x00#8, 0x3E#8, 0x42#8, 0xDD#8] 3 .exhausted (.undefinedOpcode 0xDD#8) .nextE)) =
      some (.ended (.undefinedOpcode 0xDD#8)) ∧
    answer (step (cursorAt [0x00#8, 0xC3#8, 0x34#8] 1 .positioned .invalidText .nextE)) = some (.ended .outOfData) ∧
    cursor (step (cursorAt [0x00#8, 0xC3#8, 0x34#8] 1 .positioned .outOfData .next)) = some (1, .exhausted) := by decide

/-- P1, step 5: a backward jump does not move the cursor backward. -/
theorem test_backward_jump_goes_on :
    answer (step (cursorAt [0x20#8, 0xFC#8] 0 .positioned .outOfData .nextE)) = some (.item (.jrCc .nz (-4))) ∧
    cursor (step (cursorAt [0x20#8, 0xFC#8] 0 .positioned .outOfData .nextE)) = some (2, .positioned) := by decide

/-! ## Witnesses
For each obligation with hypotheses, a state and operands that meet them, clause by clause. -/

/-- The bytes placed at the start of a buffer stand there. -/
theorem holds_placed (bytes : List Byte) : Holds (romOf bytes) 0 bytes := by
  refine ⟨Nat.le_of_eq (Nat.zero_add _), fun k h => ?_⟩
  exact Memory.read_writeBytes_inside (m := []) rfl 0 bytes h

theorem witness_decodeUndoesEncode :
    Instr.wf (.ldAD8 0x42#8) = true ∧ (Instr.ldAD8 0x42#8) ≠ .prefixCb ∧ Instr.wf (.jrE8 (-128)) = true ∧
    Instr.wf (.jrE8 127) = true ∧ Instr.wf (.undefined 0xFD#8) = true := by decide

theorem witness_encodeUndoesDecode : decode [0x3E#8, 0x42#8, 0xFF#8] = .ok (.ldAD8 0x42#8, 2) := by decide

theorem witness_eachClassValueHasOneEncoding :
    DecodeAnswers (romOf [0x3E#8, 0x42#8, 0x3E#8, 0x42#8]) 0 (.decodeOk (.ldR8Imm .a 0x42#8) 2) ∧
    DecodeAnswers (romOf [0x3E#8, 0x42#8, 0x3E#8, 0x42#8]) 2 (.decodeOk (.ldR8Imm .a 0x42#8) 2) := ⟨rfl, rfl⟩

theorem witness_stepRunsTheDecodedRow :
    Holds (asking [0x3E#8, 0x42#8] (.decode 0)) 0 [0x3E#8, 0x42#8] ∧ decode [0x3E#8, 0x42#8] = .ok (.ldAD8 0x42#8, 2) ∧
    [0x3E#8, 0x42#8].length = min 3 ((asking [0x3E#8, 0x42#8] (.decode 0)).len - 0) ∧
    (asking [0x3E#8, 0x42#8] (.decode 0)).requests = .decode 0 :: [] ∧
    Holds (asking [0x3E#8, 0x42#8] .next) 0 [0x3E#8, 0x42#8] ∧ (asking [0x3E#8, 0x42#8] .next).constructed = true ∧
    (asking [0x3E#8, 0x42#8] .next).st = .positioned ∧ (asking [0x3E#8, 0x42#8] .next).pos = 0 ∧
    (asking [0x3E#8, 0x42#8] .next).requests = .next :: [] ∧ (asking [0x3E#8, 0x42#8] .nextE).requests = .nextE :: [] := by
  unfold Holds; decide

theorem witness_stepOnUndecodableBytesFails :
    decode [0x3E#8] = .error .outOfData ∧ Holds (asking [0x3E#8] .next) 0 [0x3E#8] ∧
    [0x3E#8].length = min 3 ((asking [0x3E#8] .next).len - 0) ∧ decode [] = .error .outOfData ∧
    Holds (cursorAt [0x3E#8] 1 .positioned .outOfData .nextE) 1 [] ∧
    ([] : List Byte).length = min 3 ((cursorAt [0x3E#8] 1 .positioned .outOfData .nextE).len - 1) ∧
    (cursorAt [0x3E#8] 1 .positioned .outOfData .nextE).pos = 1 ∧
    (cursorAt [0x3E#8] 1 .positioned .outOfData .nextE).constructed = true ∧
    (cursorAt [0x3E#8] 1 .positioned .outOfData .nextE).requests = .nextE :: [] ∧
    (asking [0x3E#8] (.decode 0)).requests = .decode 0 :: [] ∧
    (asking [0x3E#8] .next).requests = .next :: [] := by unfold Holds; decide

theorem witness_decodeAgreesWithThePseudocode :
    (romOf [0xC3#8, 0x34#8, 0x12#8]).decodeRef 0 = .ok (.jp 0x1234#16, 3) ∧
    (romOf [0xC3#8, 0x34#8]).decodeRef 0 = .error .outOfData ∧
    (romOf [0xFD#8]).decodeRef 0 = .error (.undefinedOpcode 0xFD#8) := by decide

theorem witness_everyRowCompletesWithItsReferenceClass :
    Instr.wf (.addSpE8 (-128)) = true ∧ (Instr.addSpE8 (-128)) ≠ .prefixCb ∧
    (∀ b, (Instr.addSpE8 (-128)) ≠ .undefined b) ∧ Holds (romOf [0xE8#8, 0x80#8]) 0 (encode (.addSpE8 (-128))) :=
  ⟨by decide, by decide, fun _ => Instr.noConfusion, holds_placed [0xE8#8, 0x80#8]⟩

theorem witness_escapeSelectsTheExtendedTable :
    (0 < (romOf [0xCB#8, 0xFF#8]).len ∧ (romOf [0xCB#8, 0xFF#8]).rom.read 0 = 0xCB#8 ∧
      0 + 1 < (romOf [0xCB#8, 0xFF#8]).len) ∧
    (0 < (romOf [0xCB#8]).len ∧ (romOf [0xCB#8]).rom.read 0 = 0xCB#8 ∧ (romOf [0xCB#8]).len = 0 + 1) ∧
    (romOf [0xCB#8, 0xFF#8]).fetchOffset + 1 < (romOf [0xCB#8, 0xFF#8]).len ∧
    (romOf [0xCB#8]).len ≤ (romOf [0xCB#8]).fetchOffset + 1 := by decide

theorem witness_undefinedBytesFail :
    0xD3#8 ∈ undefinedBytes ∧ 0xFD#8 ∈ undefinedBytes ∧ 0 < (romOf [0xFD#8]).len ∧ (romOf [0xFD#8]).rom.read 0 = 0xFD#8 := by
  decide

theorem witness_firstByteFixesLengthAndTruncation :
    (romOf [0x00#8]).len ≤ 1 ∧ (romOf [0x00#8]).len ≤ 2 ∧
    (0 < (romOf [0x00#8]).len ∧ (romOf [0x00#8]).rom.read 0 ∉ undefinedBytes ∧ 0 + encodingLength 0x00#8 ≤ (romOf [0x00#8]).len) ∧
    (0 + encodingLength 0xCB#8 ≤ (romOf [0xCB#8, 0x00#8]).len ∧ (romOf [0xCB#8]).len < 0 + encodingLength 0xCB#8) ∧
    (0 + encodingLength 0x3E#8 ≤ (romOf [0x3E#8, 0x00#8]).len ∧ (romOf [0x3E#8]).len < 0 + encodingLength 0x3E#8) ∧
    (0 + encodingLength 0xC3#8 ≤ (romOf [0xC3#8, 0x00#8, 0x00#8]).len ∧
      (romOf [0xC3#8, 0x00#8]).len < 0 + encodingLength 0xC3#8) ∧
    (romOf [0xC3#8, 0x00#8]).rom.read 0 = 0xC3#8 ∧ 0xC3#8 ∉ undefinedBytes := by decide

theorem witness_onlyTheConsumedBytesMatter :
    DecodeAnswers (romOf [0x3E#8, 0x42#8, 0xDD#8]) 0 (.decodeOk (.ldR8Imm .a 0x42#8) 2) ∧
    1 + 2 ≤ (romOf [0xFF#8, 0x3E#8, 0x42#8]).len ∧
    ∀ k, k < 2 → (romOf [0xFF#8, 0x3E#8, 0x42#8]).rom.read (1 + k) = (romOf [0x3E#8, 0x42#8, 0xDD#8]).rom.read (0 + k) :=
  ⟨rfl, by decide, by decide⟩

theorem witness_controlForms : Holds (romOf [0x00#8]) 0 [0x00#8] ∧ Holds (romOf [0xF9#8]) 0 [0xF9#8] :=
  ⟨holds_placed _, holds_placed _⟩

theorem witness_accumulatorForms : Holds (romOf [0x07#8]) 0 [0x07#8] ∧ Holds (romOf [0x3F#8]) 0 [0x3F#8] :=
  ⟨holds_placed _, holds_placed _⟩

theorem witness_immediateLoadForms :
    Holds (romOf [0x3E#8, 0xFF#8]) 0 [0b00#2 ++ 7#3 ++ 0b110#3, 0xFF#8] ∧
    Holds (romOf [0x31#8, 0xFE#8, 0xFF#8]) 0 [0b00#2 ++ 3#2 ++ 0b0001#4, 0xFE#8, 0xFF#8] ∧
    ((romOf [0x3E#8]).len = 0 + 1 ∧ Holds (romOf [0x3E#8]) 0 ([0b00#2 ++ 7#3 ++ 0b110#3, 0xFF#8].take 1)) ∧
    ((romOf [0x31#8, 0xFE#8]).len = 0 + 2 ∧
      Holds (romOf [0x31#8, 0xFE#8]) 0 ([0b00#2 ++ 3#2 ++ 0b0001#4, 0xFE#8, 0xFF#8].take 2)) :=
  ⟨holds_placed _, holds_placed _, ⟨rfl, holds_placed [0x3E#8]⟩, rfl, holds_placed [0x31#8, 0xFE#8]⟩

theorem witness_moveForms :
    ¬ (6#3 = 6#3 ∧ 7#3 = 6#3) ∧ ¬ (7#3 = 6#3 ∧ 6#3 = 6#3) ∧ Holds (romOf [0x77#8]) 0 [0b01#2 ++ 6#3 ++ 7#3] ∧
    Holds (romOf [0x7E#8]) 0 [0b01#2 ++ 7#3 ++ 6#3] := ⟨by decide, by decide, holds_placed _, holds_placed _⟩

theorem witness_pointerForms : Holds (romOf [0x02#8]) 0 [0x02#8] ∧ Holds (romOf [0x3A#8]) 0 [0x3A#8] :=
  ⟨holds_placed _, holds_placed _⟩

theorem witness_highPageAndAbsoluteForms :
    Holds (romOf [0xE0#8, 0xFF#8]) 0 [0xE0#8, 0xFF#8] ∧ Holds (romOf [0xF8#8, 0x80#8]) 0 [0xF8#8, 0x80#8] ∧
    Holds (romOf [0x08#8, 0x11#8, 0x1F#8]) 0 [0x08#8, 0x11#8, 0x1F#8] ∧
    ((romOf [0xF0#8]).len = 0 + 1 ∧ Holds (romOf [0xF0#8]) 0 ([0xF0#8, 0x44#8].take 1)) ∧
    ((romOf [0xEA#8, 0x00#8]).len = 0 + 2 ∧ Holds (romOf [0xEA#8, 0x00#8]) 0 ([0xEA#8, 0x00#8, 0xC0#8].take 2)) :=
  ⟨holds_placed _, holds_placed _, holds_placed _, ⟨rfl, holds_placed [0xF0#8]⟩, rfl, holds_placed [0xEA#8, 0x00#8]⟩

theorem witness_pushPopForms :
    Holds (romOf [0xF5#8]) 0 [0b11#2 ++ 3#2 ++ 0b0101#4] ∧ Holds (romOf [0xC1#8]) 0 [0b11#2 ++ 0#2 ++ 0b0001#4] :=
  ⟨holds_placed _, holds_placed _⟩

theorem witness_aluRegisterForms :
    Holds (romOf [0x80#8]) 0 [0b10000#5 ++ 0#3] ∧ Holds (romOf [0xBF#8]) 0 [0b10111#5 ++ 7#3] :=
  ⟨holds_placed _, holds_placed _⟩

theorem witness_aluImmediateForms :
    Holds (romOf [0xC6#8, 0xFF#8]) 0 [0b11000110#8, 0xFF#8] ∧
    ((romOf [0xFE#8]).len = 0 + 1 ∧ Holds (romOf [0xFE#8]) 0 ([0b11111110#8, 0x90#8].take 1)) :=
  ⟨holds_placed _, rfl, holds_placed [0xFE#8]⟩

theorem witness_incrementDecrementForms :
    Holds (romOf [0x34#8]) 0 [0b00#2 ++ 6#3 ++ 0b100#3] ∧ Holds (romOf [0x3B#8]) 0 [0b00#2 ++ 3#2 ++ 0b1011#4] :=
  ⟨holds_placed _, holds_placed _⟩

theorem witness_wideAddForms :
    Holds (romOf [0x39#8]) 0 [0b00#2 ++ 3#2 ++ 0b1001#4] ∧ Holds (romOf [0xE8#8, 0x80#8]) 0 [0xE8#8, 0x80#8] ∧
    ((romOf [0xE8#8]).len = 0 + 1 ∧ Holds (romOf [0xE8#8]) 0 ([0xE8#8, 0x80#8].take 1)) :=
  ⟨holds_placed _, holds_placed _, rfl, holds_placed [0xE8#8]⟩

theorem witness_relativeJumpForms :
    Holds (romOf [0x18#8, 0x7F#8]) 0 [0x18#8, 0x7F#8] ∧ Holds (romOf [0x38#8, 0x80#8]) 0 [0b001#3 ++ 3#2 ++ 0b000#3, 0x80#8] ∧
    ((romOf [0x18#8]).len = 0 + 1 ∧ Holds (romOf [0x18#8]) 0 ([0x18#8, 0x80#8].take 1)) :=
  ⟨holds_placed _, holds_placed _, rfl, holds_placed [0x18#8]⟩

theorem witness_absoluteJumpAndCallForms :
    Holds (romOf [0xC3#8, 0x34#8, 0x12#8]) 0 [0xC3#8, 0x34#8, 0x12#8] ∧
    Holds (romOf [0xDC#8, 0xDD#8, 0xDD#8]) 0 [0b110#3 ++ 3#2 ++ 0b100#3, 0xDD#8, 0xDD#8] ∧
    ((romOf [0xC3#8]).len = 0 + 1 ∧ Holds (romOf [0xC3#8]) 0 ([0xC3#8, 0x34#8, 0x12#8].take 1)) ∧
    ((romOf [0xC3#8, 0x34#8]).len = 0 + 2 ∧ Holds (romOf [0xC3#8, 0x34#8]) 0 ([0xC3#8, 0x34#8, 0x12#8].take 2)) :=
  ⟨holds_placed _, holds_placed _, ⟨rfl, holds_placed [0xC3#8]⟩, rfl, holds_placed [0xC3#8, 0x34#8]⟩

theorem witness_returnAndResetForms :
    Holds (romOf [0xC0#8]) 0 [0b110#3 ++ 0#2 ++ 0b000#3] ∧ Holds (romOf [0xFF#8]) 0 [0b11#2 ++ 7#3 ++ 0b111#3] :=
  ⟨holds_placed _, holds_placed _⟩

theorem witness_rotateShiftForms :
    Holds (romOf [0xCB#8, 0x00#8]) 0 [0xCB#8, 0b00000#5 ++ 0#3] ∧ Holds (romOf [0xCB#8, 0x3F#8]) 0 [0xCB#8, 0b00111#5 ++ 7#3] ∧
    ((romOf [0xCB#8]).len = 0 + 1 ∧ Holds (romOf [0xCB#8]) 0 ([0xCB#8, 0b00000#5 ++ 0#3].take 1)) :=
  ⟨holds_placed _, holds_placed _, rfl, holds_placed [0xCB#8]⟩

theorem witness_bitForms :
    Holds (romOf [0xCB#8, 0x40#8]) 0 [0xCB#8, 0b01#2 ++ 0#3 ++ 0#3] ∧ Holds (romOf [0xCB#8, 0xFF#8]) 0 [0xCB#8, 0b11#2 ++ 7#3 ++ 7#3] ∧
    ((romOf [0xCB#8]).len = 0 + 1 ∧ Holds (romOf [0xCB#8]) 0 ([0xCB#8, 0b01#2 ++ 0#3 ++ 6#3].take 1)) :=
  ⟨holds_placed _, holds_placed _, rfl, holds_placed [0xCB#8]⟩

theorem witness_initConstructsTheCursor :
    1 ≤ (beforeInit [0x00#8] .next).len ∧ (beforeInit [0x00#8] .next).len < 2 := by decide

theorem witness_nextDecodesAtThePosition :
    (romOf [0x3E#8, 0x42#8]).constructed = true ∧ (romOf [0x3E#8, 0x42#8]).st = .positioned ∧
    (romOf [0x3E#8, 0x42#8]).decodeRef (romOf [0x3E#8, 0x42#8]).pos = .ok (.ldR8Imm .a 0x42#8, 2) ∧
    (romOf [0x3E#8]).decodeRef (romOf [0x3E#8]).pos = .error .outOfData ∧
    (cursorAt [0xDD#8] 0 .exhausted (.undefinedOpcode 0xDD#8) .next).st = .exhausted := by decide

theorem witness_nextAndNextEDifferOnlyInTheAnswer :
    serve .next (romOf [0x00#8]) = .next { romOf [0x00#8] with pos := 1, delivered := [.nextSome .nop] } ∧
    serve .next (romOf [0xDD#8]) =
      .next { romOf [0xDD#8] with st := .exhausted, cause := .undefinedOpcode 0xDD#8, delivered := [.nextNone] } := ⟨rfl, rfl⟩

theorem witness_machineStopsOnlyBeforeAnyInit :
    ((beforeInit [0x00#8] .next).constructed = false ∧ (beforeInit [0x00#8] .next).requests = .next :: []) ∧
    ((beforeInit [0x00#8] .nextE).constructed = false ∧ (beforeInit [0x00#8] .nextE).requests = .nextE :: []) ∧
    step (beforeInit [0x00#8] .next) = .refused .cursorNeverConstructed := ⟨⟨rfl, rfl⟩, ⟨rfl, rfl⟩, rfl⟩


/-- An exhausted cursor with one request of each kind the statement tells apart. -/
def exhaustedAsked : State :=
  { cursorAt [0xDD#8] 0 .exhausted (.undefinedOpcode 0xDD#8) .next with requests := [.next, .nextE, .decode 0] }

/-- The answers to them, in the order of the requests. -/
def exhaustedAnswers : List Response :=
  [.nextNone, .ended (.undefinedOpcode 0xDD#8), .decodeErr (.undefinedOpcode 0xDD#8)]

theorem witness_exhaustedIsTerminal :
    exhaustedAsked.constructed = true ∧ exhaustedAsked.st = .exhausted ∧ (∀ r ∈ exhaustedAsked.requests, isInit r = false) ∧
    (Request.next, Response.nextNone) ∈ (exhaustedAsked.requests.take 3).zip exhaustedAnswers ∧
    (Request.nextE, Response.ended exhaustedAsked.cause) ∈ (exhaustedAsked.requests.take 3).zip exhaustedAnswers ∧
    isPure (.decode 0) = true := by decide

/-- V5's buffer with three requests pending, and an empty buffer with one. -/
theorem witness_cursorYieldsTheSequenceAndEnds :
    (romOf [0x00#8, 0xDD#8]).constructed = true ∧ (romOf [0x00#8, 0xDD#8]).st = .positioned ∧
    (romOf [0x00#8, 0xDD#8]).pos ≤ (romOf [0x00#8, 0xDD#8]).len ∧
    (romOf [0x00#8, 0xDD#8]).len - (romOf [0x00#8, 0xDD#8]).pos + 1 ≤ 3 ∧
    ({ romOf [0x00#8, 0xDD#8] with requests := [.next, .next, .next] } : State).requests = List.replicate 3 .next ∧
    (romOf []).pos ≤ (romOf []).len ∧ (romOf []).len - (romOf []).pos + 1 ≤ 1 := by decide

theorem witness_onlyInitMovesBackOrRevives :
    (∀ r ∈ (asking [0x00#8] .next).requests.head?, isInit r = false) ∧
    step (asking [0x00#8] .next) = .next { romOf [0x00#8] with pos := 1, delivered := [.nextSome .nop] } ∧
    (∀ r ∈ (romOf [0x00#8]).requests.head?, isInit r = false) ∧ step (romOf [0x00#8]) = .next (romOf [0x00#8]) :=
  ⟨by decide, rfl, by decide, rfl⟩

theorem witness_romIsNeverWritten :
    step (asking [0x00#8] (.init 9)) = .next { romOf [0x00#8] with pos := 1, st := .exhausted, cause := .outOfData } := rfl

theorem witness_pureOperationsTouchNoState :
    isPure (.decode 0) = true ∧ isPure .parseHeader = true ∧ isPure (.validate v20Record) = true ∧
    (romOf [0x00#8]).rom = (beforeInit [0x00#8] .next).rom ∧ (romOf [0x00#8]).len = (beforeInit [0x00#8] .next).len := by decide

/-- A state over a buffer without requests or responses that satisfies the invariant. -/
theorem inv_asking (r : Request) : Inv (asking [0x3E#8, 0x42#8] r) where
  romCanonical := rfl
  romWithinLen := rfl
  posWithinLen := fun _ => Nat.zero_le _
  causeIsDecodeFailure := fun _ _ => rfl
  responsesWf := fun _ h => nomatch h

theorem witness_constructedMachineRunsForEver :
    (asking [0x3E#8, 0x42#8] .nextE).constructed = true ∧ Inv (asking [0x3E#8, 0x42#8] .nextE) ∧
    isInit ((asking [0x3E#8, 0x42#8] .nextE).requests.headD (.init 0)) = false := ⟨rfl, inv_asking _, rfl⟩

theorem witness_eachOperationAnswersItsOwnOutcomes :
    (asking [0x3E#8, 0x42#8] .nextE).requests = .nextE :: [] ∧ Inv (asking [0x3E#8, 0x42#8] .nextE) ∧
    step (asking [0x3E#8, 0x42#8] .nextE) =
      .next { romOf [0x3E#8, 0x42#8] with op := .nextE, pos := 2, delivered := [.item (.ldR8Imm .a 0x42#8)] } ∧
    (asking [0x3E#8, 0x42#8] (.init 3)).requests = .init 3 :: [] ∧ isInit (.init 3) = true ∧
    Inv (asking [0x3E#8, 0x42#8] (.init 3)) ∧
    step (asking [0x3E#8, 0x42#8] (.init 3)) = .next { romOf [0x3E#8, 0x42#8] with pos := 2, st := .exhausted } :=
  ⟨rfl, inv_asking _, rfl, rfl, rfl, inv_asking _, rfl⟩

theorem witness_terminalErrorTellsWhyDecodingStopped :
    serve .nextE (romOf [0xDD#8]) = .next { romOf [0xDD#8] with
      op := .nextE, st := .exhausted, cause := .undefinedOpcode 0xDD#8, delivered := [.ended (.undefinedOpcode 0xDD#8)] } ∧
    serve .nextE (romOf []) = .next { romOf [] with
      op := .nextE, st := .exhausted, cause := .outOfData, delivered := [.ended .outOfData] } ∧
    serve .nextE (romOf [0xC3#8, 0x34#8]) = .next { romOf [0xC3#8, 0x34#8] with
      op := .nextE, st := .exhausted, cause := .outOfData, delivered := [.ended .outOfData] } ∧
    (romOf []).pos ≤ (romOf []).len ∧ (romOf []).constructed = true ∧ (romOf []).st = .positioned :=
  ⟨rfl, rfl, rfl, by decide, rfl, rfl⟩

theorem witness_invariantHoldsAtReset :
    Memory.wf [(0, 0x3E#8)] = true ∧ Memory.below [(0, 0x3E#8)] 1 = true ∧ Memory.wf [(0, 0x00#8)] = false ∧
    Memory.below [(1, 0x3E#8)] 1 = false := by decide

theorem witness_stepKeepsTheInvariant :
    Inv (asking [0x3E#8, 0x42#8] .next) ∧ step (asking [0x3E#8, 0x42#8] .next) =
      .next { romOf [0x3E#8, 0x42#8] with pos := 2, delivered := [.nextSome (.ldR8Imm .a 0x42#8)] } := ⟨inv_asking _, rfl⟩

theorem witness_memReadReturnsTheBytesOrOutOfData :
    2 + 0 ≤ (romOf [0x3E#8, 0x42#8]).len ∧ 0 + 2 ≤ (romOf [0x3E#8, 0x42#8]).len ∧ (romOf [0x3E#8, 0x42#8]).len < 1 + 2 ∧
    (romOf [0x3E#8, 0x42#8]).len < 3 + 0 ∧ (cursorAt [0x3E#8, 0x42#8] 1 .exhausted .outOfData .next).len = (romOf [0x3E#8, 0x42#8]).len ∧
    ∀ a, a < (romOf [0x3E#8, 0x42#8]).len →
      (cursorAt [0x3E#8, 0x42#8] 1 .exhausted .outOfData .next).byteAt a = (romOf [0x3E#8, 0x42#8]).byteAt a := by decide

theorem witness_readersReturnValueAndAdvancedPosition :
    1 < (romOf [0x7F#8, 0x80#8]).len ∧ (romOf [0x7F#8, 0x80#8]).len ≤ 2 ∧ 0 + 2 ≤ (romOf [0x7F#8, 0x80#8]).len ∧
    (romOf [0x7F#8, 0x80#8]).len < 1 + 2 ∧ 0 + 1 ≤ (romOf [0x7F#8, 0x80#8]).len ∧
    (∀ b ∈ romBytes (romOf [0x7F#8, 0x80#8]) 0 1, b.toNat < 0x80) ∧
    ∃ b ∈ romBytes (romOf [0x7F#8, 0x80#8]) 0 2, 0x80 ≤ b.toNat := by decide

theorem witness_operandArithmeticIsExact :
    (0x7F#8).toNat < 128 ∧ 128 ≤ (0x80#8).toNat ∧ sint8 0x7F#8 = 127 ∧ sint8 0x80#8 = -128 ∧ sint8 0xFF#8 = -1 := by decide

/-- V20's state meets the hypothesis of BankCountsOfAParsedHeader and CartridgeTypeIsTotalWithTwentyFiveNames. -/
theorem witness_parsedHeader :
    serve .parseHeader (v20 [] 0x154) = .next { v20 [] 0x154 with delivered := [.headerOk v20Record] } := by
  have h : (v20 [] 0x154).parseHeader = .ok v20Record := by decide +kernel
  simp only [serve, serveParseHeader, h]
  rfl

/-- V21: other bytes outside the header. -/
theorem witness_headerReadsOnlyItsOwnBytes :
    min (v20 [] 0x154).len 0x150 = min (v20 [(0x100, 0xFF#8), (0x153, 0x00#8)] 0x154).len 0x150 ∧
    ∀ a, a < 0x150 → 0x104 ≤ a → a < (v20 [] 0x154).len →
      (v20 [] 0x154).rom.read a = (v20 [(0x100, 0xFF#8), (0x153, 0x00#8)] 0x154).rom.read a := by decide +kernel

theorem witness_validateVerdict :
    LogoRule logoBytes ∧ ¬ LogoRule (List.replicate 48 0x00#8) ∧ v20Record.super = true ∧ v20Record.oldLicensee = 0x33#8 ∧
    ({ v20Record with oldLicensee := 0x32#8 } : HeaderRecord).oldLicensee ≠ 0x33#8 ∧
    ({ v20Record with super := false } : HeaderRecord).super = false := by
  unfold LogoRule; decide +kernel

theorem witness_validatorIsAProxy :
    (logoBytes.reverse).Perm v20Record.fingerprint ∧ logoBytes.length = 48 :=
  ⟨List.reverse_perm logoBytes, by decide⟩

end Sys2Proof.Tests
end

section
/-! PROOFS. The invariant `Inv`: each operation on the state keeps it, hence every step does (`spec/10_state.md` R27). -/

namespace Sys2Proof.Machine

open Sys2Proof

/-! ## What each operation on the state does to the invariant -/

/-- The queue and the note of the running operation are no part of the invariant. -/
theorem Inv.serving {s : State} (h : Inv s) (rest : List Request) (op : DecodeOp) :
    Inv { s with requests := rest, op := op } where
  romCanonical := h.romCanonical
  romWithinLen := h.romWithinLen
  posWithinLen := h.posWithinLen
  causeIsDecodeFailure := h.causeIsDecodeFailure
  responsesWf := h.responsesWf

theorem Inv.respond {s : State} (h : Inv s) {r : Response} (hr : responseWf r = true) : Inv (s.respond r) where
  romCanonical := h.romCanonical
  romWithinLen := h.romWithinLen
  posWithinLen := h.posWithinLen
  causeIsDecodeFailure := h.causeIsDecodeFailure
  responsesWf := List.forall_mem_cons.mpr ⟨hr, h.responsesWf⟩

theorem Inv.advance {s : State} (h : Inv s) {n : Nat} (hn : s.pos + n ≤ s.len) : Inv (s.advance n) where
  romCanonical := h.romCanonical
  romWithinLen := h.romWithinLen
  posWithinLen _ := hn
  causeIsDecodeFailure := h.causeIsDecodeFailure
  responsesWf := h.responsesWf

theorem Inv.setExhausted {s : State} (h : Inv s) {e : Error} (he : isDecodeFailure e = true) :
    Inv (s.setExhausted e) where
  romCanonical := h.romCanonical
  romWithinLen := h.romWithinLen
  posWithinLen := h.posWithinLen
  causeIsDecodeFailure _ _ := he
  responsesWf := h.responsesWf

/-- `CAUSE` is a free value in the positioned state (log entry 3), where the invariant says nothing of it. -/
theorem Inv.setPositioned {s : State} (h : Inv s) : Inv s.setPositioned where
  romCanonical := h.romCanonical
  romWithinLen := h.romWithinLen
  posWithinLen := h.posWithinLen
  causeIsDecodeFailure _ hx := by simp at hx
  responsesWf := h.responsesWf

/-- Constructing a cursor at an offset within `LEN`. The invariant says nothing of a cursor not yet constructed, so what it
asks of the cause of an exhausted one is a hypothesis here. -/
theorem Inv.constructCursor {s : State} (h : Inv s) {p : Nat} (hp : p ≤ s.len)
    (hc : s.st = .exhausted → isDecodeFailure s.cause = true) : Inv { s with pos := p, constructed := true } where
  romCanonical := h.romCanonical
  romWithinLen := h.romWithinLen
  posWithinLen _ := hp
  causeIsDecodeFailure _ := hc
  responsesWf := h.responsesWf

/-- `INIT` needs nothing of the cursor before it: a start beyond `LEN` gives `POS = LEN` and `OutOfData` (R321). -/
theorem Inv.initCursor {s : State} (h : Inv s) (start : Nat) : Inv (s.initCursor start) := by
  unfold State.initCursor
  split
  · next hstart => exact h.setPositioned.constructCursor hstart (by simp)
  · exact (h.setExhausted rfl).constructCursor (Nat.le_refl s.len) fun _ => rfl

/-! ## The step -/

/-- Only `NEXT_E` on an exhausted cursor reports something the state already held: its `CAUSE`, of which the invariant
itself says that it is a decode failure. -/
theorem StepCase.inv {s t : State} (hst : StepCase s t) (h : Inv s) : Inv t := by
  cases hst with
  | idle _ => exact h
  | headerOk _ hw => exact (h.serving _ _).respond hw
  | headerErr _ he => exact (h.serving _ _).respond he
  | valid _ _ => exact (h.serving _ _).respond rfl
  | invalid _ _ => exact (h.serving _ _).respond rfl
  | decodeOk _ hv h1 h3 _ => exact (h.serving _ _).respond (by simp [responseWf, hv, h1, h3])
  | decodeErr _ he => exact (h.serving _ _).respond he
  | init _ => exact (h.serving _ _).initCursor _
  | nextExhausted _ _ _ => exact (h.serving _ _).respond rfl
  | @nextSome rest _ _ _ _ _ hv _ _ hl => exact ((h.serving rest .next).advance hl).respond hv
  | nextNone _ _ _ he => exact ((h.serving _ _).setExhausted he).respond rfl
  | nextEExhausted _ hc hx => exact (h.serving _ _).respond (h.causeIsDecodeFailure hc hx)
  | @item rest _ _ _ _ _ hv _ _ hl => exact ((h.serving rest .nextE).advance hl).respond hv
  | ended _ _ _ he => exact ((h.serving _ _).setExhausted he).respond he

/-- Settles O42: whichever case of `StepCase` the step was, it is made of operations that keep the invariant. -/
theorem stepKeepsTheInvariant : Obligations.StepKeepsTheInvariant :=
  fun _ _ h hst => (step_cases hst).inv h

/-! ## The states a run begins in -/

theorem inv_unconstructed {rom : Memory} {len : Nat} (hw : Memory.wf rom = true) (hb : Memory.below rom len = true) :
    Inv (State.unconstructed rom len) where
  romCanonical := hw
  romWithinLen := hb
  posWithinLen hc := by cases hc
  causeIsDecodeFailure hc := by cases hc
  responsesWf := List.forall_mem_nil _

/-- Reset is a positioned cursor at offset 0 of the empty buffer, constructed where none stood before. -/
theorem inv_reset : Inv State.reset :=
  (inv_unconstructed (rom := []) (len := 0) rfl rfl).constructCursor (Nat.le_refl 0) fun _ => rfl

/-- Settles O41: reset is a cursor constructed on the unconstructed empty buffer, and the invariant says nothing of
the cursor of an unconstructed one. -/
theorem invariantHoldsAtReset : Obligations.InvariantHoldsAtReset :=
  ⟨inv_reset, fun _ _ hw hb => inv_unconstructed hw hb⟩

end Sys2Proof.Machine
end

section
/-! PROOFS. The ROM buffer (`spec/20_memory.md`): no step writes it (R52), `MemRead` returns its bytes in order or
`OutOfData` (R55), and what the host supplied reads back (R50). -/

namespace Sys2Proof.Machine

open Sys2Proof

/-! ## No step writes the buffer -/

@[simp] theorem State.initCursor_rom (s : State) (start : Nat) : (s.initCursor start).rom = s.rom := by
  unfold State.initCursor; split <;> rfl

@[simp] theorem State.initCursor_len (s : State) (start : Nat) : (s.initCursor start).len = s.len := by
  unfold State.initCursor; split <;> rfl

/-- The byte at an offset depends on the buffer alone. -/
theorem State.byteAt_congr {s t : State} (hr : t.rom = s.rom) (hl : t.len = s.len) (a : Nat) :
    t.byteAt a = s.byteAt a := by
  simp [State.byteAt, hr, hl]

/-- `INIT` is the one operation that branches; every other case is record updates of fields outside the buffer. -/
theorem StepCase.rom_len {s t : State} (hst : StepCase s t) : t.rom = s.rom ∧ t.len = s.len := by
  cases hst with
  | init _ => exact ⟨State.initCursor_rom _ _, State.initCursor_len _ _⟩
  | _ => exact ⟨rfl, rfl⟩

/-- Settles O37: no case of `StepCase` touches the buffer, and a byte depends on nothing else. -/
theorem romIsNeverWritten : Obligations.RomIsNeverWritten := by
  intro s t hst
  obtain ⟨hrom, hlen⟩ := (step_cases hst).rom_len
  exact ⟨hrom, hlen, State.byteAt_congr hrom hlen⟩

/-! ## `MemRead` -/

/-- The model's recursive run of bytes is the run the statements read offset by offset. -/
theorem State.bytesFrom_eq_romBytes (s : State) (off n : Nat) : s.bytesFrom off n = romBytes s off n :=
  List.ext_getElem (by simp [romBytes]) fun k hk _ => by simp [State.bytesFrom_getElem s off n k hk, romBytes]

/-- A run of bytes depends only on the bytes at its own offsets. -/
theorem State.bytesFrom_congr_read {s t : State} {off n : Nat}
    (h : ∀ k, k < n → t.rom.read (off + k) = s.rom.read (off + k)) : t.bytesFrom off n = s.bytesFrom off n := by
  simp only [State.bytesFrom_eq_romBytes, romBytes]
  exact List.map_congr_left fun k hk => h k (List.mem_range.mp hk)

theorem State.read_eq_of_byteAt_eq {s t : State} {a : Nat} (hs : a < s.len) (ht : a < t.len)
    (h : t.byteAt a = s.byteAt a) : t.rom.read a = s.rom.read a := by
  rwa [State.byteAt_of_lt ht, State.byteAt_of_lt hs, Option.some.injEq] at h

/-- `MemRead` sees no byte at or beyond `LEN`: a read that succeeds lies below it, and a failure depends on `LEN` alone. -/
theorem State.memRead_congr {s t : State} (hl : t.len = s.len) (h : ∀ a, a < s.len → t.byteAt a = s.byteAt a)
    (addr n : Nat) : t.memRead addr n = s.memRead addr n := by
  obtain ⟨hs, hin⟩ | ⟨hs, hout⟩ := State.memRead_cases s addr n
  · have hread : ∀ k, k < n → t.rom.read (addr + k) = s.rom.read (addr + k) := fun k hk =>
      have hlt : addr + k < s.len := by omega
      State.read_eq_of_byteAt_eq hlt (hl ▸ hlt) (h _ hlt)
    rw [hs, State.memRead_ok (hl ▸ hin), State.bytesFrom_congr_read hread]
  · rw [hs, State.memRead_error (hl ▸ hout)]

/-- Settles O44: the two outcomes of `MemRead`, and its independence of bytes beyond `LEN`. -/
theorem memReadReturnsTheBytesOrOutOfData : Obligations.MemReadReturnsTheBytesOrOutOfData := by
  intro s addr n
  refine ⟨fun hin => ?_, State.memRead_error, fun t hl h => State.memRead_congr hl h addr n⟩
  rw [State.memRead_ok hin, State.bytesFrom_eq_romBytes]

/-! ## The buffer the host supplies -/

@[simp] theorem State.withRom_rom (s : State) (bytes : List Byte) :
    (s.withRom bytes).rom = Memory.writeBytes [] 0 bytes := rfl

@[simp] theorem State.withRom_len (s : State) (bytes : List Byte) : (s.withRom bytes).len = bytes.length := rfl

theorem State.byteAt_withRom (s : State) (bytes : List Byte) (a : Nat) : (s.withRom bytes).byteAt a = bytes[a]? := by
  rcases Nat.lt_or_ge a bytes.length with ha | ha
  · have hread := Memory.read_writeBytes_inside (m := []) rfl 0 bytes ha
    rw [Nat.zero_add] at hread
    rw [State.byteAt_of_lt ha, State.withRom_rom, hread, List.getElem?_eq_getElem ha]
  · rw [State.byteAt_of_le ha, List.getElem?_eq_none ha]

/-- Settles O46: the buffer is written into the empty memory, so the laws of `Memory.writeBytes` give the canonical form
and its bound, and each byte is read back where it was written. -/
theorem hostBufferReadsBack : Obligations.HostBufferReadsBack := fun s bytes =>
  ⟨State.withRom_len s bytes, Memory.writeBytes_wf rfl 0 bytes, Memory.writeBytes_below rfl bytes (by simp),
    State.byteAt_withRom s bytes⟩

end Sys2Proof.Machine
end

section
/-! PROOFS. The decoder and the encoder undo each other (`spec/30_encoding.md` R80, R81, R97). -/

namespace Sys2Proof.Machine

open Sys2Proof

/-! ## Decoding an encoded row -/

/-- The operands the encoder takes apart (16-bit values, signed offsets) and the byte of UNDEFINED are put together again
by the laws their rows' lemmas cite; every other row's bytes decode to it by computation. -/
theorem decode_encode_append (i : Instr) : Laws.RoundTrip.Statement i := by
  cases i with
  | ldBcD16 d16 => exact Laws.RoundTrip.ldBcD16 d16
  | ldDeD16 d16 => exact Laws.RoundTrip.ldDeD16 d16
  | ldHlD16 d16 => exact Laws.RoundTrip.ldHlD16 d16
  | ldSpD16 d16 => exact Laws.RoundTrip.ldSpD16 d16
  | ldMemA16Sp a16 => exact Laws.RoundTrip.ldMemA16Sp a16
  | ldMemA16A a16 => exact Laws.RoundTrip.ldMemA16A a16
  | ldAMemA16 a16 => exact Laws.RoundTrip.ldAMemA16 a16
  | jpA16 a16 => exact Laws.RoundTrip.jpA16 a16
  | jpNzA16 a16 => exact Laws.RoundTrip.jpNzA16 a16
  | jpZA16 a16 => exact Laws.RoundTrip.jpZA16 a16
  | jpNcA16 a16 => exact Laws.RoundTrip.jpNcA16 a16
  | jpCA16 a16 => exact Laws.RoundTrip.jpCA16 a16
  | callA16 a16 => exact Laws.RoundTrip.callA16 a16
  | callNzA16 a16 => exact Laws.RoundTrip.callNzA16 a16
  | callZA16 a16 => exact Laws.RoundTrip.callZA16 a16
  | callNcA16 a16 => exact Laws.RoundTrip.callNcA16 a16
  | callCA16 a16 => exact Laws.RoundTrip.callCA16 a16
  | jrE8 e8 => exact Laws.RoundTrip.jrE8 e8
  | jrNzE8 e8 => exact Laws.RoundTrip.jrNzE8 e8
  | jrZE8 e8 => exact Laws.RoundTrip.jrZE8 e8
  | jrNcE8 e8 => exact Laws.RoundTrip.jrNcE8 e8
  | jrCE8 e8 => exact Laws.RoundTrip.jrCE8 e8
  | addSpE8 e8 => exact Laws.RoundTrip.addSpE8 e8
  | ldHlSpE8 e8 => exact Laws.RoundTrip.ldHlSpE8 e8
  | undefined b => exact Laws.RoundTrip.undefined b
  | prefixCb => exact Laws.RoundTrip.prefixCb
  | _ => exact fun _ _ _ => rfl

/-- Settles O1, row by row. -/
theorem decodeUndoesEncode : Obligations.DecodeUndoesEncode := decode_encode_append

/-! ## Encoding a decoded row -/

theorem encode_extendedRow : ∀ b1 : Byte, encode (extendedRow b1) = [escapeByte, b1] := by decide

/-- The table gives back the byte the fields were read from, and of the two bytes after it as many as are its operand. Of
the operands only a signed offset and a 16-bit value are taken apart again, each by its law of assembly. -/
theorem encode_primaryRow (b0 b1 b2 : Byte) :
    encode (primaryRow b0 b1 b2) = [b0, b1, b2].take (1 + operandWidth b0) := by
  rw [byte_eq_fields b0]
  generalize fieldX b0 = x
  generalize fieldY b0 = y
  generalize fieldZ b0 = z
  rcases bitVec2_cases x with rfl | rfl | rfl | rfl <;>
    rcases bitVec3_cases y with rfl | rfl | rfl | rfl | rfl | rfl | rfl | rfl <;>
      rcases bitVec3_cases z with rfl | rfl | rfl | rfl | rfl | rfl | rfl | rfl <;>
        first
          | rfl
          | exact congrArg (fun e8 => [_, e8]) (offsetByte_sint8 b1)
          | exact congrArg₂ (fun lo hi => [_, lo, hi]) (lowByte_le16 b1 b2) (highByte_le16 b1 b2)

/-- A defined byte decodes to its row on bytes that are the operand exactly where the encoding reaches. -/
theorem decodeDefined_ok {b0 : Byte} {rest : List Byte} {i : Instr} {n : Nat} (h : decodeDefined b0 rest = .ok (i, n)) :
    ∃ b1 b2, i = primaryRow b0 b1 b2 ∧ n = 1 + operandWidth b0 ∧ (b0 :: rest).take n = [b0, b1, b2].take n := by
  unfold decodeDefined at h
  split at h <;> cases h
  · next hw => exact ⟨0, 0, rfl, by rw [hw], rfl⟩
  · next b1 _ hw => exact ⟨b1, 0, rfl, by rw [hw], rfl⟩
  · next b1 b2 _ hw => exact ⟨b1, b2, rfl, by rw [hw], rfl⟩

/-- What the decoder consumed is the encoding of the row it answers. -/
theorem encode_eq_take_of_decode {bs : List Byte} {i : Instr} {n : Nat} (h : decode bs = .ok (i, n)) :
    n = (encode i).length ∧ encode i = bs.take n := by
  rcases decode_ok_cases h with ⟨rfl, rfl, rfl⟩ | ⟨b1, rest, rfl, rfl, rfl⟩ | ⟨b0, rest, rfl, -, rfl, rfl⟩ |
    ⟨b0, -, -, rest, rfl, hb, hu, -⟩
  · exact ⟨rfl, rfl⟩
  · rw [encode_extendedRow]
    exact ⟨rfl, rfl⟩
  · exact ⟨rfl, rfl⟩
  · rw [decode_defined hb hu] at h
    obtain ⟨b1, b2, rfl, rfl, htake⟩ := decodeDefined_ok h
    have hw := operandWidth_le b0
    rw [encode_primaryRow, htake]
    exact ⟨by simp; omega, rfl⟩

/-- Settles O2: the decoder's well-formed answers, and what it consumed. -/
theorem encodeUndoesDecode : Obligations.EncodeUndoesDecode :=
  fun _ _ _ h => ⟨decode_wf h, encode_eq_take_of_decode h⟩

/-- The escape row is selected only where no byte follows the escape (`spec/42_decoder_top.md` R173). -/
theorem eq_escape_of_decode_prefixCb {bs : List Byte} {n : Nat} (h : decode bs = .ok (.prefixCb, n)) :
    bs = [escapeByte] := by
  obtain ⟨rfl, hbs⟩ := encode_eq_take_of_decode h
  match bs, hbs with
  | [b0], hbs => exact hbs.symm
  | b0 :: b1 :: rest, hbs =>
    have hb : escapeByte = b0 := (List.cons.inj hbs).1
    rw [← hb, decode_escape] at h
    simp [encode] at h

end Sys2Proof.Machine
end

section
/-! PROOFS. A class value names its encoding (`spec/30_encoding.md` R111): the row each value stands for, and that `DECODE`
answers it only at that row's bytes. -/

namespace Sys2Proof

/-! ## The row of a class value -/

/-- The selector code of a pair register; `SP` and `AF` share code 3 (`spec/10_state.md` R22). -/
def Register16.code : Register16 → BitVec 2
  | .bc => 0#2 | .de => 1#2 | .hl => 2#2 | .sp | .af => 3#2

/-- The row a class value stands for (`spec/30_encoding.md` R111). A value outside the class table
(`Instruction.wf`), which no row delivers, gets the row of its selector's code. -/
def Instruction.row : Instruction → Instr
  | .nop => .nop | .stop => .stop | .halt => .halt | .di => .di | .ei => .ei | .ret => .ret | .reti => .reti
  | .jpHl => .jpHl | .ldSpHl => .ldSpHl | .rlca => .rlca | .rrca => .rrca | .rla => .rla | .rra => .rra
  | .daa => .daa | .cpl => .cpl | .scf => .scf | .ccf => .ccf
  | .ldR8Imm r d8 => ldImmRow d8 r
  | .ldR16Imm p d16 => ldWordRow d16 p.code
  | .ldR8R8 dst src => moveRow dst src
  | .stAInd p => storeARow p.code
  | .ldAInd p => loadARow p.code
  | .stAHli => .ldMemHlIncA | .stAHld => .ldMemHlDecA | .ldAHli => .ldAMemHlInc | .ldAHld => .ldAMemHlDec
  | .stAHigh a8 => .ldhMemA8A a8
  | .ldAHigh a8 => .ldhAMemA8 a8
  | .stAHighC => .ldhMemCA | .ldAHighC => .ldhAMemC
  | .stAAbs a16 => .ldMemA16A a16
  | .ldAAbs a16 => .ldAMemA16 a16
  | .stSpAbs a16 => .ldMemA16Sp a16
  | .ldHlSpOff e8 => .ldHlSpE8 e8
  | .push p => pushRow p.code
  | .pop p => popRow p.code
  | .add r => aluRow .add r | .adc r => aluRow .adc r | .sub r => aluRow .sub r | .sbc r => aluRow .sbc r
  | .and r => aluRow .and r | .xor r => aluRow .xor r | .or r => aluRow .or r | .cp r => aluRow .cp r
  | .addImm d8 => .addAD8 d8 | .adcImm d8 => .adcAD8 d8 | .subImm d8 => .subD8 d8 | .sbcImm d8 => .sbcAD8 d8
  | .andImm d8 => .andD8 d8 | .xorImm d8 => .xorD8 d8 | .orImm d8 => .orD8 d8 | .cpImm d8 => .cpD8 d8
  | .inc8 r => incRow r
  | .dec8 r => decRow r
  | .inc16 p => incWordRow p.code
  | .dec16 p => decWordRow p.code
  | .addHl p => addHlRow p.code
  | .addSpOff e8 => .addSpE8 e8
  | .jr e8 => .jrE8 e8
  | .jrCc cc e8 => jrCcRow e8 cc
  | .jp a16 => .jpA16 a16
  | .jpCc cc a16 => jpCcRow a16 cc
  | .call a16 => .callA16 a16
  | .callCc cc a16 => callCcRow a16 cc
  | .retCc cc => retCcRow cc
  | .rst vec => rstRow (fieldY vec)
  | .rlc r => rotRow .rlc r | .rrc r => rotRow .rrc r | .rl r => rotRow .rl r | .rr r => rotRow .rr r
  | .sla r => rotRow .sla r | .sra r => rotRow .sra r | .swap r => rotRow .swap r | .srl r => rotRow .srl r
  | .bit b r => bitRow b r
  | .res b r => resRow b r
  | .set b r => setRow b r

namespace Machine

/-- Every row but the two that are no instruction delivers a class value that stands for the row, and the length of the
row's encoding. -/
theorem exec_eq_yield_row (i : Instr) :
    i = .prefixCb ∨ (∃ b, i = .undefined b) ∨
      ∃ v, v.row = i ∧ ∀ s, exec i s = .next (s.yield v (encode i).length) := by
  cases i with
  | prefixCb => exact .inl rfl
  | undefined b => exact .inr (.inl ⟨b, rfl⟩)
  | _ =>
    refine .inr (.inr ⟨_, ?_, fun _ => rfl⟩)
    rfl

/-! ## `DECODE` by its outcome -/

@[simp] theorem State.respond_inj {s : State} {r r' : Response} : s.respond r = s.respond r' ↔ r = r' := by
  simp [State.respond]

/-- The bytes of the row the decoder selects at an offset stand there. -/
theorem holds_encode_of_decode_window {s : State} {off : Nat} {i : Instr} {n : Nat}
    (h : decode (s.window off) = .ok (i, n)) : Holds s off (encode i) := by
  obtain ⟨-, htake⟩ := encode_eq_take_of_decode h
  have hprefix : encode i <+: s.window off := htake ▸ List.take_prefix n _
  have hne : s.window off ≠ [] := by
    intro hnil
    rw [hnil, decode_nil] at h
    cases h
  have hpos := List.length_pos_iff.mpr hne
  have hle := hprefix.length_le
  refine ⟨by rw [State.window_length] at hpos hle; omega, fun k hk => ?_⟩
  rw [hprefix.getElem hk, State.window_getElem]

/-- A direct decode answers a class value only where the bytes of the value's row stand, and consumes just those. The
escape alone is no exception: with no byte after it the decode fails (`spec/42_decoder_top.md` R173). -/
theorem holds_encode_row_of_runAt {s : State} {off n : Nat} {v : Instruction} (hop : s.op = .direct off)
    (h : runAt off s = .next (s.respond (.decodeOk v n))) :
    n = (encode v.row).length ∧ Holds s off (encode v.row) := by
  cases hd : decode (s.window off) with
  | error e => simp [runAt, hd, State.raise_direct hop] at h
  | ok a =>
    obtain ⟨i, k⟩ := a
    have hexec : exec i s = .next (s.respond (.decodeOk v n)) := by simpa [runAt, hd] using h
    rcases exec_eq_yield_row i with rfl | ⟨b, rfl⟩ | ⟨w, rfl, hw⟩
    · have hend : s.len ≤ off + 1 := by
        have hlen := s.window_length off
        rw [eq_escape_of_decode_prefixCb hd, List.length_singleton] at hlen
        omega
      simp [exec, execPrefixCb, State.fetchOffset, hop, State.byteAt_of_le hend, State.raise_direct hop] at hexec
    · simp [exec, execUndefined, State.raise_direct hop] at hexec
    · rw [hw, State.yield_direct hop] at hexec
      obtain ⟨rfl, rfl⟩ : w = v ∧ (encode w.row).length = n := by simpa using hexec
      exact ⟨rfl, holds_encode_of_decode_window hd⟩

theorem DecodeAnswers.holds_encode_row {s : State} {off n : Nat} {v : Instruction}
    (h : DecodeAnswers s off (.decodeOk v n)) : n = (encode v.row).length ∧ Holds s off (encode v.row) :=
  holds_encode_row_of_runAt (s := { s with op := .direct off }) rfl h

/-- Settles O4: both places hold the bytes of the one row the value stands for. -/
theorem eachClassValueHasOneEncoding : Obligations.EachClassValueHasOneEncoding := by
  intro s t off off' v n m hs ht
  obtain ⟨rfl, -, hs⟩ := hs.holds_encode_row
  obtain ⟨rfl, -, ht⟩ := ht.holds_encode_row
  exact ⟨rfl, fun k hk => (hs k hk).trans (ht k hk).symm⟩

end Machine

end Sys2Proof
end

section
/-! PROOFS. The forms of the instruction set, and those of the ALU range (`spec/30_encoding.md` R85). -/

namespace Sys2Proof.Machine

open Sys2Proof

/-! ## Forms of the instruction set -/

theorem afterDecode_eq_yield (s : State) (v : Instruction) (n : Nat) : afterDecode s v n = s.yield v n := by
  obtain ⟨rom, len, pos, st, cause, constructed, freeCount, op, requests, delivered⟩ := s
  cases op <;> rfl

/-- Bytes that stand at an offset, no longer than the longest encoding, begin the decoder's window there. -/
theorem Holds.window_eq_append {s : State} {off : Nat} {bytes : List Byte} (h : Holds s off bytes)
    (h3 : bytes.length ≤ 3) : ∃ rest, s.window off = bytes ++ rest := by
  obtain ⟨hlen, hread⟩ := h
  have hle : bytes.length ≤ (s.window off).length := by
    rw [State.window_length]
    omega
  have hprefix : bytes <+: s.window off := by
    refine List.prefix_iff_getElem.mpr ⟨hle, fun k hk => ?_⟩
    rw [← hread k hk, s.window_getElem]
  obtain ⟨rest, hrest⟩ := hprefix
  exact ⟨rest, hrest.symm⟩

/-- A form is settled by its decoding and its row's execution: `DECODE` is the one after the other. -/
theorem Form.intro {row : Instr} {bytes : List Byte} {v : Instruction} (h3 : bytes.length ≤ 3)
    (hdecode : ∀ rest, decode (bytes ++ rest) = .ok (row, bytes.length))
    (hexec : ∀ s, exec row s = .next (s.yield v bytes.length)) : Form row bytes v := by
  refine ⟨hdecode, fun s => by rw [hexec, afterDecode_eq_yield], fun s off hs => ?_⟩
  obtain ⟨rest, hw⟩ := hs.window_eq_append h3
  simp [DecodeAnswers, serve, runAt, hw, hdecode, hexec, State.yield, State.respond]

/-! ## The ALU range -/

/-- A byte of the ALU range is no escape, is defined and has no operand byte. -/
theorem aluByte_plain : ∀ y z : BitVec 3, 0b10#2 ++ y ++ z ≠ escapeByte ∧ 0b10#2 ++ y ++ z ∉ undefinedBytes ∧
    operandWidth (0b10#2 ++ y ++ z) = 0 := by decide

theorem primaryRow_aluByte : ∀ y z : BitVec 3,
    primaryRow (0b10#2 ++ y ++ z) 0 0 = aluRow (aluOp y) (memberR8 z) := by decide

theorem decode_aluByte (y z : BitVec 3) (rest : List Byte) :
    decode ((0b10#2 ++ y ++ z) :: rest) = .ok (aluRow (aluOp y) (memberR8 z), 1) := by
  obtain ⟨hesc, hdef, hwidth⟩ := aluByte_plain y z
  rw [decode_defined hesc hdef, decodeDefined_none hwidth, primaryRow_aluByte]

theorem exec_aluRow (o : AluOp) (r : Register8) (s : State) :
    exec (aluRow o r) s = .next (s.yield (aluClass o r) 1) := by
  cases o <;> cases r <;> rfl

theorem form_aluByte (y z : BitVec 3) :
    Form (aluRow (aluOp y) (memberR8 z)) [0b10#2 ++ y ++ z] (aluClass (aluOp y) (memberR8 z)) :=
  Form.intro (by simp) (decode_aluByte y z) (exec_aluRow _ _)

/-- Settles O20: the eight operations are the eight values of the field `y`. -/
theorem aluRegisterForms : Obligations.AluRegisterForms := fun z =>
  ⟨form_aluByte 0 z, form_aluByte 1 z, form_aluByte 2 z, form_aluByte 3 z,
    form_aluByte 4 z, form_aluByte 5 z, form_aluByte 6 z, form_aluByte 7 z⟩

end Sys2Proof.Machine
end

section
/-! PROOFS. The primitive field readers (`spec/40_field_readers.md` R120-R125): the value read and the position advanced by
its width, or a failure with nothing consumed. -/

namespace Sys2Proof.Machine

open Sys2Proof

/-- A big-endian pair is the little-endian one with its bytes exchanged, hence the first byte set before the second. -/
theorem be16_eq_append (b0 b1 : Byte) : be16 b0 b1 = (b0 ++ b1 : BitVec 16) := by
  have hswap : be16 b0 b1 = le16 b1 b0 := by rw [be16, le16, Nat.add_comm]
  rw [hswap, le16_eq_append]

theorem textValid_eq_true_iff {bs : List Byte} : textValid bs = true ↔ ∀ b ∈ bs, b.toNat < 0x80 := by
  simp [textValid]

theorem textValid_eq_false_iff {bs : List Byte} : textValid bs = false ↔ ∃ b ∈ bs, 0x80 ≤ b.toNat := by
  simp [textValid]

theorem State.readU16_le_ok {s : State} {p : Nat} (h : p + 2 ≤ s.len) :
    s.readU16 p .le = .ok (s.rom.read (p + 1) ++ s.rom.read p, p + 2) := by
  rw [State.readU16_ok h, word16, le16_eq_append]

theorem State.readU16_be_ok {s : State} {p : Nat} (h : p + 2 ≤ s.len) :
    s.readU16 p .be = .ok (s.rom.read p ++ s.rom.read (p + 1), p + 2) := by
  rw [State.readU16_ok h, word16, be16_eq_append]

/-- Settles O45, reader by reader. `read_text` judges its bytes only where all of them are there. -/
theorem readersReturnValueAndAdvancedPosition : Obligations.ReadersReturnValueAndAdvancedPosition := by
  intro s p n
  refine ⟨State.readU8_ok, State.readU8_error, fun hin => ⟨State.readU16_le_ok hin, State.readU16_be_ok hin⟩,
    State.readU16_error, fun hin => ?_,
    fun hout => ⟨State.readBytes_error hout, State.skip_error hout, State.readText_error hout⟩⟩
  rw [← State.bytesFrom_eq_romBytes]
  exact ⟨State.readBytes_ok hin, State.skip_ok hin,
    fun hlow => State.readText_ok hin (textValid_eq_true_iff.mpr hlow),
    fun hhigh => State.readText_invalid hin (textValid_eq_false_iff.mpr hhigh)⟩

end Sys2Proof.Machine
end

section
/-! PROOFS. The header parser (`spec/41_header.md` R140 to R143): what it answers, which bytes that depends on, and what the
two size tables and the cartridge type put into a parsed record. -/

namespace Sys2Proof.Machine

open Sys2Proof

/-! ## Bytes needed before a computation goes on -/

/-- The computation `x` where the buffer has at least `n` bytes, `OutOfData` where it has not. -/
def State.need {α : Type} (s : State) (n : Nat) (x : Except Error α) : Except Error α :=
  if n ≤ s.len then x else .error .outOfData

theorem State.need_of_le {α : Type} {s : State} {n : Nat} (h : n ≤ s.len) (x : Except Error α) : s.need n x = x := if_pos h

theorem State.need_of_lt {α : Type} {s : State} {n : Nat} (h : s.len < n) (x : Except Error α) :
    s.need n x = .error .outOfData := if_neg (Nat.not_le.mpr h)

theorem State.need_eq_ok {α : Type} {s : State} {n : Nat} {x : Except Error α} {a : α} :
    s.need n x = .ok a ↔ n ≤ s.len ∧ x = .ok a := by
  unfold State.need
  split <;> simp [*]

/-- Of two needs in a row the greater one decides. -/
theorem State.need_need {α : Type} (s : State) {m n : Nat} (h : m ≤ n) (x : Except Error α) :
    s.need m (s.need n x) = s.need n x := by
  rcases Nat.lt_or_ge s.len m with hm | hm
  · rw [State.need_of_lt hm, State.need_of_lt (Nat.lt_of_lt_of_le hm h)]
  · rw [State.need_of_le hm]

/-- Two buffers of the same length up to `m` have the same needs met up to `m`. -/
theorem State.need_congr {α : Type} {s t : State} {m n : Nat} (hl : min s.len m = min t.len m) (hn : n ≤ m)
    {x y : Except Error α} (h : n ≤ s.len → x = y) : s.need n x = t.need n y := by
  rcases Nat.lt_or_ge s.len n with hs | hs
  · rw [State.need_of_lt hs, State.need_of_lt (by omega)]
  · rw [State.need_of_le hs, State.need_of_le (by omega), h hs]

/-! ## The readers in a chain: each needs its bytes -/

theorem State.skip_bind {β : Type} (s : State) (p n : Nat) (f : Nat → Except Error β) :
    (s.skip p n >>= f) = s.need (p + n) (f (p + n)) := by
  rcases Nat.lt_or_ge s.len (p + n) with h | h
  · rw [State.skip_error h, State.need_of_lt h]; rfl
  · rw [State.skip_ok h, State.need_of_le h]; rfl

theorem State.readU8_bind {β : Type} (s : State) (p : Nat) (f : Byte × Nat → Except Error β) :
    (s.readU8 p >>= f) = s.need (p + 1) (f (s.rom.read p, p + 1)) := by
  rcases Nat.lt_or_ge s.len (p + 1) with h | h
  · rw [State.readU8_error (Nat.le_of_lt_succ h), State.need_of_lt h]; rfl
  · rw [State.readU8_ok h, State.need_of_le h]; rfl

theorem State.readU16_be_bind {β : Type} (s : State) (p : Nat) (f : Word × Nat → Except Error β) :
    (s.readU16 p .be >>= f) = s.need (p + 2) (f (s.rom.read p ++ s.rom.read (p + 1), p + 2)) := by
  rcases Nat.lt_or_ge s.len (p + 2) with h | h
  · rw [State.readU16_error h, State.need_of_lt h]; rfl
  · rw [State.readU16_be_ok h, State.need_of_le h]; rfl

theorem State.readBytes_bind {β : Type} (s : State) (p n : Nat) (f : List Byte × Nat → Except Error β) :
    (s.readBytes p n >>= f) = s.need (p + n) (f (romBytes s p n, p + n)) := by
  rcases Nat.lt_or_ge s.len (p + n) with h | h
  · rw [State.readBytes_error h, State.need_of_lt h]; rfl
  · rw [State.readBytes_ok h, State.need_of_le h, State.bytesFrom_eq_romBytes]; rfl

theorem State.readText_bind {β : Type} (s : State) (p n : Nat) (f : List Byte × Nat → Except Error β) :
    (s.readText p n >>= f) = s.need (p + n)
      (if textValid (romBytes s p n) then f (romBytes s p n, p + n) else .error .invalidText) := by
  rcases Nat.lt_or_ge s.len (p + n) with h | h
  · rw [State.readText_error h, State.need_of_lt h]; rfl
  · rw [State.need_of_le h, ← State.bytesFrom_eq_romBytes]
    cases ht : textValid (s.bytesFrom p n) with
    | true => rw [State.readText_ok h ht]; rfl
    | false => rw [State.readText_invalid h ht]; rfl

/-! ## The parser as a whole -/

/-- The record of R140, with the bank counts its two size bytes translate to. -/
def State.headerRecord (s : State) (romBanks : Nat) (ramGeom : Nat × Nat) : HeaderRecord where
  fingerprint := romBytes s 0x104 48
  title := romBytes s 0x134 15
  color := s.rom.read 0x143 == 0x80#8
  newLicensee := romBytes s 0x144 2
  super := s.rom.read 0x146 == 0x03#8
  cartType := cartTypeOf (s.rom.read 0x147)
  romBanks := romBanks
  ramBanks := ramGeom.1
  ramBankSize := ramGeom.2
  japanese := s.rom.read 0x14A == 0x00#8
  oldLicensee := s.rom.read 0x14B
  maskRomVersion := s.rom.read 0x14C
  complement := s.rom.read 0x14D
  checksum := s.rom.read 0x14E ++ s.rom.read 0x14F

/-- `PARSE_HEADER` from the ROM-size byte on (R140). -/
def State.sizedHeader (s : State) : Except Error HeaderRecord := do
  let n ← romBanksOf (s.rom.read 0x148)
  s.need 0x14A do
    let g ← ramGeomOf (s.rom.read 0x149)
    s.need 0x150 (.ok (s.headerRecord n g))

/-- The parser reads at fixed offsets, and stops for want of bytes only before its three checks and before the record. -/
theorem State.parseHeader_eq (s : State) :
    s.parseHeader = s.need 0x143
      (if textValid (romBytes s 0x134 15) then s.need 0x149 s.sizedHeader else .error .invalidText) := by
  simp only [State.parseHeader, State.skip_bind, State.readBytes_bind, State.readText_bind, State.readU8_bind,
    State.readU16_be_bind, headerSkip]
  simp only [Nat.zero_add, Nat.reduceAdd, Nat.reduceLeDiff, State.need_need, State.sizedHeader]
  rfl

/-! ## The size tables (R131 to R134) -/

theorem romBankTable_lookup_isSome : ∀ b : Byte,
    (romBankTable.lookup b).isSome = decide (b.toNat ≤ 0x08 ∨ (0x52 ≤ b.toNat ∧ b.toNat ≤ 0x54)) := by decide

theorem ramGeomTable_lookup_isNone : ∀ b : Byte, (ramGeomTable.lookup b).isNone = decide (0x05 < b.toNat) := by decide

theorem romBanksOf_bind {β : Type} (b : Byte) (f : Nat → Except Error β) : (romBanksOf b >>= f) =
    if b.toNat ≤ 0x08 ∨ (0x52 ≤ b.toNat ∧ b.toNat ≤ 0x54) then f ((romBankTable.lookup b).getD 0)
    else .error (.unknownRomSize b) := by
  have hb := romBankTable_lookup_isSome b
  unfold romBanksOf
  cases h : romBankTable.lookup b with
  | some n =>
    rw [h] at hb
    rw [if_pos (of_decide_eq_true hb.symm)]
    rfl
  | none =>
    rw [h] at hb
    rw [if_neg (of_decide_eq_false hb.symm)]
    rfl

theorem ramGeomOf_bind {β : Type} (b : Byte) (f : Nat × Nat → Except Error β) : (ramGeomOf b >>= f) =
    if 0x05 < b.toNat then .error (.unknownRamSize b) else f ((ramGeomTable.lookup b).getD (0, 0)) := by
  have hb := ramGeomTable_lookup_isNone b
  unfold ramGeomOf
  cases h : ramGeomTable.lookup b with
  | some n =>
    rw [h] at hb
    rw [if_neg (of_decide_eq_false hb.symm)]
    rfl
  | none =>
    rw [h] at hb
    rw [if_pos (of_decide_eq_true hb.symm)]
    rfl

theorem mem_of_lookup_eq_some {α β : Type} [BEq α] [LawfulBEq α] {l : List (α × β)} {a : α} {b : β}
    (h : l.lookup a = some b) : (a, b) ∈ l := by
  obtain ⟨l₁, l₂, rfl, -⟩ := List.lookup_eq_some_iff.mp h
  simp

theorem mem_romBankTable_of_ok {b : Byte} {n : Nat} (h : romBanksOf b = .ok n) : (b, n) ∈ romBankTable := by
  unfold romBanksOf at h
  split at h
  next hl => cases h; exact mem_of_lookup_eq_some hl
  next => cases h

theorem mem_ramGeomTable_of_ok {b : Byte} {g : Nat × Nat} (h : ramGeomOf b = .ok g) : (b, g) ∈ ramGeomTable := by
  unfold ramGeomOf at h
  split at h
  next hl => cases h; exact mem_of_lookup_eq_some hl
  next => cases h

/-- The ROM bank counts in closed form (decision D19 of the spec). -/
theorem romBankTable_closed : ∀ e ∈ romBankTable,
    (e.1.toNat ≤ 8 ∧ e.2 = 2 ^ (e.1.toNat + 1)) ∨ (e.1.toNat = 0x52 ∧ e.2 = 72) ∨ (e.1.toNat = 0x53 ∧ e.2 = 80) ∨
      (e.1.toNat = 0x54 ∧ e.2 = 96) := by decide

/-- The RAM-size byte is a position in the list of geometries (decision D20 of the spec). -/
theorem ramGeomTable_closed : ∀ e ∈ ramGeomTable,
    ([(0, 0), (1, 2048), (1, 8192), (4, 8192), (16, 8192), (8, 8192)] : List (Nat × Nat))[e.1.toNat]? = some e.2 := by
  decide

/-! ## The answer -/

/-- What the host is handed for an outcome of the parser. -/
def headerResponse : Except Error HeaderRecord → Response
  | .ok h => .headerOk h
  | .error e => .headerErr e

theorem serve_parseHeader_eq (s : State) : serve .parseHeader s = .next (s.respond (headerResponse s.parseHeader)) := by
  cases h : s.parseHeader <;> simp [serve, serveParseHeader, h, headerResponse]

theorem headerResponse_need (s : State) (n : Nat) (x : Except Error HeaderRecord) :
    headerResponse (s.need n x) = if s.len < n then .headerErr .outOfData else headerResponse x := by
  rcases Nat.lt_or_ge s.len n with h | h
  · rw [State.need_of_lt h, if_pos h]; rfl
  · rw [State.need_of_le h, if_neg (Nat.not_lt.mpr h)]

/-- The parser's outcome, as the table of R141 orders it. -/
theorem headerResponse_parseHeader (s : State) : headerResponse s.parseHeader = headerOutcome s := by
  rw [State.parseHeader_eq]
  simp only [State.sizedHeader, romBanksOf_bind, ramGeomOf_bind, headerResponse_need, apply_ite headerResponse,
    textValid_eq_true_iff, headerOutcome, ite_not]
  rfl

/-- Settles O48: both sides are the same chain of checks, and nothing but the answer is written. -/
theorem parseHeaderOutcome : Obligations.ParseHeaderOutcome := fun s => by
  rw [serve_parseHeader_eq, headerResponse_parseHeader, State.respond]

/-! ## A parsed record -/

theorem headerResponse_eq_headerOk {x : Except Error HeaderRecord} {h : HeaderRecord} :
    headerResponse x = .headerOk h ↔ x = .ok h := by
  cases x <;> simp [headerResponse]

theorem parseHeader_of_serve {s : State} {h : HeaderRecord}
    (hs : serve .parseHeader s = .next { s with delivered := .headerOk h :: s.delivered }) : s.parseHeader = .ok h := by
  simpa [serve_parseHeader_eq, State.respond, headerResponse_eq_headerOk] using hs

/-- A parsed record is the one of R140, both size bytes being defined ones. -/
theorem State.parseHeader_ok {s : State} {h : HeaderRecord} (hp : s.parseHeader = .ok h) :
    ∃ n g, romBanksOf (s.rom.read 0x148) = .ok n ∧ ramGeomOf (s.rom.read 0x149) = .ok g ∧ h = s.headerRecord n g := by
  rw [State.parseHeader_eq, State.need_eq_ok] at hp
  obtain ⟨-, hp⟩ := hp
  split at hp
  next =>
    obtain ⟨-, hp⟩ := State.need_eq_ok.mp hp
    obtain ⟨n, hn, hp⟩ := bind_ok hp
    obtain ⟨-, hp⟩ := State.need_eq_ok.mp hp
    obtain ⟨g, hg, hp⟩ := bind_ok hp
    obtain ⟨-, hp⟩ := State.need_eq_ok.mp hp
    cases hp
    exact ⟨n, g, hn, hg, rfl⟩
  next => cases hp

/-- Settles O49: the counts of a parsed record stand in the two tables, whose entries are read off in closed form. -/
theorem bankCountsOfAParsedHeader : Obligations.BankCountsOfAParsedHeader := by
  intro s h hs
  obtain ⟨n, g, hn, hg, rfl⟩ := State.parseHeader_ok (parseHeader_of_serve hs)
  exact ⟨romBankTable_closed _ (mem_romBankTable_of_ok hn), ramGeomTable_closed _ (mem_ramGeomTable_of_ok hg)⟩

/-! ## The bytes it depends on (R142) -/

theorem romBytes_congr {s t : State} {p n : Nat} (h : ∀ a, p ≤ a → a < p + n → s.rom.read a = t.rom.read a) :
    romBytes s p n = romBytes t p n :=
  List.map_congr_left fun k hk => h (p + k) (by omega) (by have := List.mem_range.mp hk; omega)

theorem State.headerRecord_congr {s t : State} (h : ∀ a, 0x104 ≤ a → a < 0x150 → s.rom.read a = t.rom.read a)
    (n : Nat) (g : Nat × Nat) : s.headerRecord n g = t.headerRecord n g := by
  have hbytes : ∀ p k, 0x104 ≤ p → p + k ≤ 0x150 → romBytes s p k = romBytes t p k := fun p k hp hk =>
    romBytes_congr fun a ha hak => h a (by omega) (by omega)
  simp [State.headerRecord, hbytes, h]

theorem State.sizedHeader_congr {s t : State} (hl : min s.len 0x150 = min t.len 0x150)
    (h : ∀ a, 0x104 ≤ a → a < 0x150 → a < s.len → s.rom.read a = t.rom.read a) (hs : 0x149 ≤ s.len) :
    s.sizedHeader = t.sizedHeader := by
  unfold State.sizedHeader
  rw [h 0x148 (by decide) (by decide) hs]
  refine congrArg _ (funext fun n => State.need_congr hl (by decide) fun hs => ?_)
  rw [h 0x149 (by decide) (by decide) hs]
  refine congrArg _ (funext fun g => State.need_congr hl (by decide) fun hs => ?_)
  rw [State.headerRecord_congr fun a ha hb => h a ha hb (by omega)]

theorem State.parseHeader_congr {s t : State} (hl : min s.len 0x150 = min t.len 0x150)
    (h : ∀ a, 0x104 ≤ a → a < 0x150 → a < s.len → s.rom.read a = t.rom.read a) : s.parseHeader = t.parseHeader := by
  rw [State.parseHeader_eq, State.parseHeader_eq]
  refine State.need_congr hl (by decide) fun hs => ?_
  rw [romBytes_congr (s := s) (t := t) fun a ha hb => h a (by omega) (by omega) (by omega),
    State.need_congr hl (by decide) (State.sizedHeader_congr hl h)]

/-- Settles O50: the parser's outcome is the same in both states. -/
theorem headerReadsOnlyItsOwnBytes : Obligations.HeaderReadsOnlyItsOwnBytes := fun s t hl h =>
  ⟨headerResponse s.parseHeader, serve_parseHeader_eq s,
    State.parseHeader_congr hl h ▸ serve_parseHeader_eq t⟩

/-! ## The cartridge type (R135) -/

/-- Each of the 25 codes is the code of some byte, whatever the free assignment is. -/
theorem exists_cartCodeOf (k : Fin 25) : ∃ b, cartCodeOf b = some k := by
  cases hc : cartCodesComplete with
  | true =>
    obtain ⟨b, hb⟩ := cartCodesComplete_iff.mp hc k
    exact ⟨b, (cartCodeOf_free hc b).trans hb⟩
  | false =>
    have hk : (BitVec.ofNat 8 k).toNat = k := by simp; omega
    refine ⟨BitVec.ofNat 8 k, ?_⟩
    rw [cartCodeOf_fallback hc (by omega)]
    simp [hk]

theorem cartName_cases (b : Byte) : cartName b = .other b ∨ ∃ k, cartName b = .named k := by
  cases hc : cartCodeOf b with
  | none => exact .inl (cartName_other hc)
  | some k => exact .inr ⟨k, cartName_named hc⟩

theorem cartTypeOf_inj {b b' : Byte} : cartTypeOf b = cartTypeOf b' ↔ b = b' :=
  ⟨congrArg CartType.raw, congrArg cartTypeOf⟩

/-- Settles O51: the assignment of names, complete by `exists_cartCodeOf`, is a function of the raw byte. -/
theorem cartridgeTypeIsTotalWithTwentyFiveNames : Obligations.CartridgeTypeIsTotalWithTwentyFiveNames := by
  refine ⟨fun _ => rfl, fun k => ?_, cartName_cases, fun _ _ => cartTypeOf_inj, fun s h hs => ?_⟩
  · obtain ⟨b, hb⟩ := exists_cartCodeOf k
    exact ⟨b, cartName_named hb⟩
  · obtain ⟨_, _, -, -, rfl⟩ := State.parseHeader_ok (parseHeader_of_serve hs)
    rfl

end Sys2Proof.Machine
end

section
/-! PROOFS. The header validator (`spec/41_header.md` R150 to R153): its four constants bit by bit, its three verdicts, and
that it does not see the order of the fingerprint's bytes. -/

namespace Sys2Proof.Machine

open Sys2Proof

/-! ## The bits of the summaries of the fingerprint -/

theorem byteOr_cons (b : Byte) (bs : List Byte) : byteOr (b :: bs) = b ||| byteOr bs := rfl
theorem byteAnd_cons (b : Byte) (bs : List Byte) : byteAnd (b :: bs) = b &&& byteAnd bs := rfl
theorem byteXor_cons (b : Byte) (bs : List Byte) : byteXor (b :: bs) = b ^^^ byteXor bs := rfl

theorem byteOr_getLsbD (bs : List Byte) (k : Nat) : (byteOr bs).getLsbD k = bs.any fun b => b.getLsbD k := by
  induction bs with
  | nil => simp [byteOr]
  | cons b bs ih => rw [byteOr_cons, BitVec.getLsbD_or, ih, List.any_cons]

theorem byteAnd_getLsbD (bs : List Byte) {k : Nat} (hk : k < 8) :
    (byteAnd bs).getLsbD k = bs.all fun b => b.getLsbD k := by
  induction bs with
  | nil => exact (by decide : ∀ k < 8, (byteAnd []).getLsbD k = true) k hk
  | cons b bs ih => rw [byteAnd_cons, BitVec.getLsbD_and, ih, List.all_cons]

/-- A bit of the XOR is the parity of the number of bytes that have it. -/
theorem byteXor_getLsbD (bs : List Byte) (k : Nat) :
    (byteXor bs).getLsbD k = decide ((bs.filter fun b => b.getLsbD k).length % 2 = 1) := by
  induction bs with
  | nil => simp [byteXor]
  | cons b bs ih =>
    rw [byteXor_cons, BitVec.getLsbD_xor, ih, List.filter_cons]
    cases b.getLsbD k with
    | false => simp
    | true =>
      simp only [if_true, List.length_cons, Bool.true_xor, ← decide_not, decide_eq_decide]
      omega

/-! ## Rule 1 bit by bit (R151) -/

theorem byteOr_eq_ff_iff (bs : List Byte) : byteOr bs = 255#8 ↔ ∀ k, k < 8 → ∃ b ∈ bs, b.getLsbD k = true := by
  have hones : ∀ k < 8, (255#8).getLsbD k = true := by decide
  rw [BitVec.eq_of_getLsbD_eq_iff]
  refine forall₂_congr fun k hk => ?_
  rw [hones k hk, byteOr_getLsbD, List.any_eq_true]

theorem byteAnd_eq_zero_iff (bs : List Byte) : byteAnd bs = 0#8 ↔ ∀ k, k < 8 → ∃ b ∈ bs, b.getLsbD k = false := by
  rw [BitVec.eq_of_getLsbD_eq_iff]
  refine forall₂_congr fun k hk => ?_
  simp [byteAnd_getLsbD bs hk]

theorem byteXor_eq_iff (bs : List Byte) (x : Byte) : byteXor bs = x ↔
    ∀ k, k < 8 → decide ((bs.filter fun b => b.getLsbD k).length % 2 = 1) = x.getLsbD k := by
  rw [BitVec.eq_of_getLsbD_eq_iff]
  exact forall₂_congr fun k _ => by rw [byteXor_getLsbD]

theorem logoPasses_iff (bs : List Byte) : logoPasses bs = true ↔ LogoRule bs := by
  simp only [logoPasses, Bool.and_eq_true, beq_iff_eq, and_assoc, byteOr_eq_ff_iff, byteAnd_eq_zero_iff, byteXor_eq_iff]
  rfl

/-! ## The three verdicts -/

theorem serve_validate_none {h : HeaderRecord} (hv : validate h = none) (s : State) :
    serve (.validate h) s = .next (s.respond .valid) := by simp [serve, serveValidate, hv]

theorem serve_validate_some {h : HeaderRecord} {v : ValidationError} (hv : validate h = some v) (s : State) :
    serve (.validate h) s = .next (s.respond (.invalid v)) := by simp [serve, serveValidate, hv]

theorem validate_logoMismatch {h : HeaderRecord} (hr : ¬ LogoRule h.fingerprint) : validate h = some .logoMismatch := by
  rw [← logoPasses_iff] at hr
  simp [validate, hr]

theorem validate_licenseeMismatch {h : HeaderRecord} (hr : LogoRule h.fingerprint) (hs : h.super = true)
    (ho : h.oldLicensee ≠ 0x33#8) : validate h = some .licenseeMismatch := by
  rw [← logoPasses_iff] at hr
  simp [validate, hr, hs, ho]

theorem validate_ok {h : HeaderRecord} (hr : LogoRule h.fingerprint) (ho : h.super = false ∨ h.oldLicensee = 0x33#8) :
    validate h = none := by
  rw [← logoPasses_iff] at hr
  obtain ho | ho := ho <;> simp [validate, hr, ho]

/-- Settles O52, one verdict at a time. -/
theorem validateVerdict : Obligations.ValidateVerdict := fun _ s =>
  ⟨fun hr => serve_validate_some (validate_logoMismatch hr) s,
    fun hr hs ho => serve_validate_some (validate_licenseeMismatch hr hs ho) s,
    fun hr ho => serve_validate_none (validate_ok hr ho) s⟩

/-! ## What the validator does not see (R396) -/

/-- The four summaries are folds of commutative operations. -/
theorem logoPasses_perm {bs bs' : List Byte} (h : bs.Perm bs') : logoPasses bs = logoPasses bs' := by
  have hsum : byteSum bs = byteSum bs' := (h.map _).sum_eq
  have hor : byteOr bs = byteOr bs' := h.foldr_eq _
  have hand : byteAnd bs = byteAnd bs' := h.foldr_eq _
  have hxor : byteXor bs = byteXor bs' := h.foldr_eq _
  rw [logoPasses, hsum, hor, hand, hxor, logoPasses]

theorem byteSum_le (bs : List Byte) : byteSum bs ≤ bs.length * 255 := by
  have hbyte : ∀ n ∈ bs.map BitVec.toNat, n ≤ 255 := by
    intro n hn
    obtain ⟨b, -, rfl⟩ := List.mem_map.mp hn
    omega
  simpa [byteSum] using List.sum_le_card_nsmul _ 255 hbyte

/-- Settles O53: the verdict sees the fingerprint through `logoPasses` alone. -/
theorem validatorIsAProxy : Obligations.ValidatorIsAProxy := by
  refine ⟨fun h bs hperm => ?_, fun bs hlen => ?_, by decide⟩
  · simp only [validate, logoPasses_perm hperm]
  · have hle := byteSum_le bs
    rwa [hlen] at hle

end Sys2Proof.Machine
end

section
/-! PROOFS. The pseudocode of `DECODE` (`spec/42_decoder_top.md` R170) in closed form: the first byte decides whether the
encoding is defined and how many bytes it needs, those bytes decide its class. -/

namespace Sys2Proof.Machine

open Sys2Proof

/-! ## The length and the class of an encoding -/

/-- The operand bytes of a format (`spec/30_encoding.md` R81). -/
def Format.operandWidth : Format → Nat
  | .opD8 | .opE8 | .opA8 => 1
  | .opD16 | .opA16 => 2
  | .op | .cbOp | .esc | .undef => 0

theorem operandWidth_eq_formatOf : ∀ b0 : Byte, operandWidth b0 = (formatOf b0).operandWidth := by decide

theorem escapeByte_notMem_undefinedBytes : escapeByte ∉ undefinedBytes := by decide

theorem encodingLength_escape : encodingLength escapeByte = 2 := rfl

theorem encodingLength_primary {b0 : Byte} (hesc : b0 ≠ escapeByte) : encodingLength b0 = 1 + operandWidth b0 := by
  simp only [encodingLength, operandWidth, List.contains_iff_mem, show b0 ≠ 0xCB#8 from hesc, false_or]
  split
  · rfl
  · split <;> rfl

theorem encodingLength_bounds (b0 : Byte) : 1 ≤ encodingLength b0 ∧ encodingLength b0 ≤ 3 := by
  unfold encodingLength
  split
  · decide
  · split <;> decide

/-- The class a first byte selects with the two bytes after it, of which it uses as many as its encoding has
(`PRIMARY` and `EXT` of R170). -/
def encodedClass (b0 b1 b2 : Byte) : Instruction :=
  if b0 = escapeByte then extendedEntry b1 else primaryClass b0 b1 b2

theorem encodedClass_escape (b1 b2 : Byte) : encodedClass escapeByte b1 b2 = extendedEntry b1 := rfl

theorem encodedClass_primary {b0 : Byte} (hesc : b0 ≠ escapeByte) (b1 b2 : Byte) :
    encodedClass b0 b1 b2 = primaryClass b0 b1 b2 := if_neg hesc

/-- Bytes beyond the operand do not matter. -/
theorem primaryClass_congr {b0 b1 b2 c1 c2 : Byte} (h1 : 1 ≤ operandWidth b0 → b1 = c1)
    (h2 : 2 ≤ operandWidth b0 → b2 = c2) : primaryClass b0 b1 b2 = primaryClass b0 c1 c2 := by
  rw [operandWidth_eq_formatOf] at h1 h2
  unfold primaryClass
  cases hf : formatOf b0 <;> simp_all [Format.operandWidth]

/-- Bytes beyond the encoding do not matter. -/
theorem encodedClass_congr {b0 b1 b2 c1 c2 : Byte} (h1 : 1 < encodingLength b0 → b1 = c1)
    (h2 : 2 < encodingLength b0 → b2 = c2) : encodedClass b0 b1 b2 = encodedClass b0 c1 c2 := by
  by_cases hesc : b0 = escapeByte
  · subst hesc
    rw [encodedClass_escape, encodedClass_escape, h1 (by decide)]
  · rw [encodingLength_primary hesc] at h1 h2
    rw [encodedClass_primary hesc, encodedClass_primary hesc,
      primaryClass_congr (fun h => h1 (by omega)) (fun h => h2 (by omega))]

/-- The class of the encoding that begins at an offset. -/
def State.classAt (s : State) (off : Nat) : Instruction :=
  encodedClass (s.rom.read off) (s.rom.read (off + 1)) (s.rom.read (off + 2))

/-! ## The pseudocode in closed form -/

theorem State.readU16_le_bind {β : Type} (s : State) (p : Nat) (f : Word × Nat → Except Error β) :
    (s.readU16 p .le >>= f) = s.need (p + 2) (f (le16 (s.rom.read p) (s.rom.read (p + 1)), p + 2)) := by
  rcases Nat.lt_or_ge s.len (p + 2) with h | h
  · rw [State.readU16_error h, State.need_of_lt h]; rfl
  · rw [State.readU16_ok h, State.need_of_le h]; rfl

theorem State.need_eq_error {α : Type} {s : State} {n : Nat} {x : Except Error α} {e : Error}
    (h : s.need n x = .error e) : e = .outOfData ∨ x = .error e := by
  unfold State.need at h
  split at h
  · exact .inr h
  · cases h; exact .inl rfl

/-- `DECODE` needs its first byte, and of a defined one the whole encoding. -/
theorem State.decodeRef_eq (s : State) (off : Nat) :
    s.decodeRef off = s.need (off + 1)
      (if s.rom.read off ∈ undefinedBytes then .error (.undefinedOpcode (s.rom.read off))
       else s.need (off + encodingLength (s.rom.read off)) (.ok (s.classAt off, encodingLength (s.rom.read off)))) := by
  rw [State.decodeRef, State.readU8_bind, State.classAt]
  by_cases hesc : s.rom.read off = escapeByte
  · simp only [hesc, escapeByte_notMem_undefinedBytes, if_true, if_false, State.readU8_bind, encodingLength_escape,
      encodedClass_escape]
    rfl
  by_cases hdef : s.rom.read off ∈ undefinedBytes
  · simp only [hesc, hdef, List.contains_iff_mem, if_true, if_false]
    rfl
  rw [encodingLength_primary hesc, encodedClass_primary hesc, primaryClass, operandWidth_eq_formatOf]
  simp only [hesc, hdef, List.contains_iff_mem, if_false, State.readU8_bind, State.readU16_le_bind]
  cases formatOf (s.rom.read off) with
  | opD8 | opE8 | opA8 | opD16 | opA16 => rfl
  | op | cbOp | esc | undef => exact (s.need_need le_rfl _).symm

theorem State.decodeRef_beyond {s : State} {off : Nat} (hend : s.len ≤ off) : s.decodeRef off = .error .outOfData := by
  rw [State.decodeRef_eq, State.need_of_lt (by omega)]

theorem State.decodeRef_undefined {s : State} {off : Nat} (hin : off < s.len)
    (hundef : s.rom.read off ∈ undefinedBytes) : s.decodeRef off = .error (.undefinedOpcode (s.rom.read off)) := by
  rw [State.decodeRef_eq, State.need_of_le hin, if_pos hundef]

theorem State.decodeRef_defined {s : State} {off : Nat} (hdef : s.rom.read off ∉ undefinedBytes)
    (hin : off + encodingLength (s.rom.read off) ≤ s.len) :
    s.decodeRef off = .ok (s.classAt off, encodingLength (s.rom.read off)) := by
  have hpos := (encodingLength_bounds (s.rom.read off)).1
  rw [State.decodeRef_eq, State.need_of_le (by omega), if_neg hdef, State.need_of_le hin]

theorem State.decodeRef_cutOff {s : State} {off : Nat} (hin : off < s.len) (hdef : s.rom.read off ∉ undefinedBytes)
    (hend : s.len < off + encodingLength (s.rom.read off)) : s.decodeRef off = .error .outOfData := by
  rw [State.decodeRef_eq, State.need_of_le hin, if_neg hdef, State.need_of_lt hend]

theorem State.decodeRef_eq_ok {s : State} {off n : Nat} {v : Instruction} (h : s.decodeRef off = .ok (v, n)) :
    s.rom.read off ∉ undefinedBytes ∧ off + n ≤ s.len ∧ v = s.classAt off ∧ n = encodingLength (s.rom.read off) := by
  rw [State.decodeRef_eq, State.need_eq_ok] at h
  obtain ⟨-, h⟩ := h
  split at h
  next => cases h
  next hdef =>
    obtain ⟨hin, h⟩ := State.need_eq_ok.mp h
    cases h
    exact ⟨hdef, hin, rfl, rfl⟩

theorem State.decodeRef_eq_error {s : State} {off : Nat} {e : Error} (h : s.decodeRef off = .error e) :
    e = .outOfData ∨ e = .undefinedOpcode (s.rom.read off) := by
  rw [State.decodeRef_eq] at h
  obtain he | h := State.need_eq_error h
  · exact .inl he
  split at h
  next => cases h; exact .inr rfl
  next =>
    obtain he | h := State.need_eq_error h
    · exact .inl he
    · cases h

/-- The pseudocode reads the buffer and nothing else. -/
theorem State.decodeRef_serving (s : State) (op : DecodeOp) (off : Nat) :
    ({ s with op := op } : State).decodeRef off = s.decodeRef off := rfl

end Sys2Proof.Machine
end

section
/-! PROOFS. The decoder by rows answers what the pseudocode answers (`spec/42_decoder_top.md` R170, log entry 11). -/

namespace Sys2Proof.Machine

open Sys2Proof

/-! ## The window at a byte of the buffer -/

theorem holds_bytesFrom {s : State} {off n : Nat} (h : off + n ≤ s.len) : Holds s off (s.bytesFrom off n) :=
  ⟨by rwa [State.bytesFrom_length], fun k hk => (s.bytesFrom_getElem off n k hk).symm⟩

theorem State.window_eq_bytesFrom_append {s : State} {off n : Nat} (h : off + n ≤ s.len) (h3 : n ≤ 3) :
    ∃ rest, s.window off = s.bytesFrom off n ++ rest :=
  (holds_bytesFrom h).window_eq_append (by rwa [State.bytesFrom_length])

theorem State.window_eq_cons {s : State} {off : Nat} (h : off < s.len) :
    ∃ rest, s.window off = s.rom.read off :: rest :=
  s.window_eq_bytesFrom_append (n := 1) h (by decide)

/-! ## The rows that are no instruction -/

theorem afterFailure_eq_raise (s : State) (e : Error) : afterFailure s e = s.raise e := by
  obtain ⟨rom, len, pos, st, cause, constructed, freeCount, op, requests, delivered⟩ := s
  cases op <;> rfl

theorem exec_prefixCb_of_lt {s : State} (h : s.fetchOffset + 1 < s.len) :
    exec .prefixCb s = .next (s.yield (extendedEntry (s.rom.read (s.fetchOffset + 1))) 2) := by
  simp [exec, execPrefixCb, State.byteAt_of_lt h]

theorem exec_prefixCb_of_le {s : State} (h : s.len ≤ s.fetchOffset + 1) :
    exec .prefixCb s = .next (s.raise .outOfData) := by
  simp [exec, execPrefixCb, State.byteAt_of_le h]

theorem exec_undefined (b : Byte) (s : State) : exec (.undefined b) s = .next (s.raise (.undefinedOpcode b)) := rfl

/-! ## The machine at an offset -/

theorem runAt_of_decode_ok {s : State} {off n : Nat} {i : Instr} (h : decode (s.window off) = .ok (i, n)) :
    runAt off s = exec i s := by simp [runAt, h]

theorem runAt_of_decode_error {s : State} {off : Nat} {e : Error} (h : decode (s.window off) = .error e) :
    runAt off s = .next (s.raise e) := by simp [runAt, h]

theorem runAt_beyond {s : State} {off : Nat} (hend : s.len ≤ off) : runAt off s = .next (s.raise .outOfData) :=
  runAt_of_decode_error (by rw [State.window_none hend, decode_nil])

theorem runAt_undefined {s : State} {off : Nat} (hin : off < s.len) (hundef : s.rom.read off ∈ undefinedBytes) :
    runAt off s = .next (s.raise (.undefinedOpcode (s.rom.read off))) := by
  obtain ⟨rest, hw⟩ := s.window_eq_cons hin
  rw [runAt_of_decode_ok (hw ▸ decode_undefined hundef rest), exec_undefined]

theorem runAt_extended {s : State} {off : Nat} (hesc : s.rom.read off = escapeByte) (hin : off + 1 < s.len) :
    runAt off s = .next (s.yield (extendedEntry (s.rom.read (off + 1))) 2) := by
  obtain ⟨rest, hw⟩ := s.window_eq_bytesFrom_append (n := 2) hin (by decide)
  have hd : decode (s.window off) = .ok (extendedRow (s.rom.read (off + 1)), 2) := by
    rw [hw, State.bytesFrom, hesc]
    exact decode_escape _ _
  rw [runAt_of_decode_ok hd, exec_extendedRow]

/-- The operand bytes the row was made of are those that stand in the ROM: they are part of the row's encoding, which
the decoder consumed there. -/
theorem runAt_primary {s : State} {off : Nat} (hesc : s.rom.read off ≠ escapeByte)
    (hdef : s.rom.read off ∉ undefinedBytes) (hin : off + (1 + operandWidth (s.rom.read off)) ≤ s.len) :
    runAt off s = .next (s.yield (primaryClass (s.rom.read off) (s.rom.read (off + 1)) (s.rom.read (off + 2)))
      (1 + operandWidth (s.rom.read off))) := by
  have hwidth := operandWidth_le (s.rom.read off)
  obtain ⟨rest, hw⟩ := s.window_eq_cons (off := off) (by omega)
  have hlen := s.window_length off
  rw [hw, List.length_cons] at hlen
  obtain ⟨b1, b2, hd⟩ := decodeDefined_long (b0 := s.rom.read off) (rest := rest) (by omega)
  rw [← decode_defined hesc hdef, ← hw] at hd
  obtain ⟨-, hread⟩ := holds_encode_of_decode_window hd
  simp only [encode_primaryRow, List.length_take, List.length_cons, List.length_nil, List.getElem_take] at hread
  rw [runAt_of_decode_ok hd, exec_primaryRow hesc hdef,
    primaryClass_congr (fun h => (hread 1 (by omega)).symm) (fun h => (hread 2 (by omega)).symm)]

theorem runAt_defined {s : State} {off : Nat} (hdef : s.rom.read off ∉ undefinedBytes)
    (hin : off + encodingLength (s.rom.read off) ≤ s.len) :
    runAt off s = .next (s.yield (s.classAt off) (encodingLength (s.rom.read off))) := by
  unfold State.classAt
  by_cases hesc : s.rom.read off = escapeByte
  · rw [hesc, encodingLength_escape] at hin
    rw [runAt_extended hesc hin, hesc, encodedClass_escape, encodingLength_escape]
  · rw [encodingLength_primary hesc] at hin ⊢
    rw [runAt_primary hesc hdef hin, encodedClass_primary hesc]

/-- Cut off by the end of the buffer, the escape selects a row of its own, which fails; any other byte selects none. -/
theorem runAt_cutOff {s : State} {off : Nat} (hf : s.fetchOffset = off) (hin : off < s.len)
    (hdef : s.rom.read off ∉ undefinedBytes) (hend : s.len < off + encodingLength (s.rom.read off)) :
    runAt off s = .next (s.raise .outOfData) := by
  by_cases hesc : s.rom.read off = escapeByte
  · rw [hesc, encodingLength_escape] at hend
    have hd : decode (s.window off) = .ok (.prefixCb, 1) := by
      rw [State.window_one (by omega), hesc, decode_escape_alone]
    rw [runAt_of_decode_ok hd, exec_prefixCb_of_le (by omega)]
  · rw [encodingLength_primary hesc] at hend
    obtain ⟨rest, hw⟩ := s.window_eq_cons hin
    have hlen := s.window_length off
    rw [hw, List.length_cons] at hlen
    refine runAt_of_decode_error ?_
    rw [hw, decode_defined hesc hdef, decodeDefined_short (by omega)]

/-- What an outcome of `DECODE` makes of the operation being served. -/
def State.conclude (s : State) : Except Error (Instruction × Nat) → State
  | .ok (v, n) => s.yield v n
  | .error e => s.raise e

/-- The machine answers at an offset what the pseudocode answers there, under each of the three operations. -/
theorem runAt_eq_decodeRef {s : State} {off : Nat} (hf : s.fetchOffset = off) :
    runAt off s = .next (s.conclude (s.decodeRef off)) := by
  rcases Nat.lt_or_ge off s.len with hin | hbeyond
  · by_cases hundef : s.rom.read off ∈ undefinedBytes
    · rw [runAt_undefined hin hundef, State.decodeRef_undefined hin hundef, State.conclude]
    · rcases Nat.lt_or_ge s.len (off + encodingLength (s.rom.read off)) with hend | hall
      · rw [runAt_cutOff hf hin hundef hend, State.decodeRef_cutOff hin hundef hend, State.conclude]
      · rw [runAt_defined hundef hall, State.decodeRef_defined hundef hall, State.conclude]
  · rw [runAt_beyond hbeyond, State.decodeRef_beyond hbeyond, State.conclude]

/-! ## What `DECODE` answers -/

/-- What the host is handed for an outcome of `DECODE`. -/
def decodeResponse : Except Error (Instruction × Nat) → Response
  | .ok (v, n) => .decodeOk v n
  | .error e => .decodeErr e

theorem State.conclude_direct {s : State} {off : Nat} (hop : s.op = .direct off)
    (x : Except Error (Instruction × Nat)) : s.conclude x = s.respond (decodeResponse x) := by
  rcases x with e | ⟨v, n⟩
  · exact State.raise_direct hop e
  · exact State.yield_direct hop v n

theorem serve_decode_eq (off : Nat) (s : State) :
    serve (.decode off) s = .next ({ s with op := .direct off }.respond (decodeResponse (s.decodeRef off))) := by
  rw [← State.conclude_direct rfl, ← s.decodeRef_serving (.direct off)]
  exact runAt_eq_decodeRef rfl

theorem decodeAnswers_iff {s : State} {off : Nat} {r : Response} :
    DecodeAnswers s off r ↔ decodeResponse (s.decodeRef off) = r := by
  rw [DecodeAnswers, serve_decode_eq]
  simp [State.respond]

theorem decodeAnswers_ok_iff {s : State} {off n : Nat} {v : Instruction} :
    DecodeAnswers s off (.decodeOk v n) ↔ s.decodeRef off = .ok (v, n) := by
  rw [decodeAnswers_iff]
  rcases s.decodeRef off with e | ⟨w, m⟩ <;> simp [decodeResponse]

theorem decodeAnswers_error_iff {s : State} {off : Nat} {e : Error} :
    DecodeAnswers s off (.decodeErr e) ↔ s.decodeRef off = .error e := by
  rw [decodeAnswers_iff]
  rcases s.decodeRef off with e | ⟨w, m⟩ <;> simp [decodeResponse]

/-- Settles O7: `runAt_eq_decodeRef` for the direct operation, and the lengths and failures of the closed form. -/
theorem decodeAgreesWithThePseudocode : Obligations.DecodeAgreesWithThePseudocode := by
  refine fun s off => ⟨fun v n h => ⟨decodeAnswers_ok_iff.mpr h, ?_⟩,
    fun e h => ⟨decodeAnswers_error_iff.mpr h, State.decodeRef_eq_error h⟩⟩
  obtain ⟨-, -, -, rfl⟩ := State.decodeRef_eq_ok h
  exact encodingLength_bounds _

end Sys2Proof.Machine
end

section
/-! PROOFS. `DECODE` row by row, byte by byte and step by step (`spec/42_decoder_top.md` R171 to R180): each statement is
read off the closed form of the pseudocode, which the machine answers. -/

namespace Sys2Proof.Machine

open Sys2Proof

/-! ## Every row -/

theorem decode_ok_le_three {bs : List Byte} {i : Instr} {n : Nat} (h : decode bs = .ok (i, n)) : n ≤ 3 := by
  rcases decode_ok_cases h with ⟨-, -, rfl⟩ | ⟨-, -, -, -, rfl⟩ | ⟨-, -, -, -, -, rfl⟩ |
    ⟨b0, -, -, -, -, -, -, -, -, rfl⟩
  · decide
  · decide
  · decide
  · have := operandWidth_le b0
    omega

/-- A well-formed row with a class is a form with its encoding. -/
theorem form_encode {i : Instr} {v : Instruction} (hwf : i.wf = true) (hne : i ≠ .prefixCb)
    (hexec : ∀ s, exec i s = .next (s.yield v (encode i).length)) : Form i (encode i) v :=
  have hdecode := decode_encode_append i hwf hne
  Form.intro (decode_ok_le_three (hdecode [])) hdecode hexec

/-- Settles O8: the row delivers one class in every state, so its encoding is a form of that class; and what `DECODE`
answers at a form's bytes is what the pseudocode answers. -/
theorem everyRowCompletesWithItsReferenceClass : Obligations.EveryRowCompletesWithItsReferenceClass := by
  intro i hwf hesc hundef
  obtain rfl | ⟨b, rfl⟩ | ⟨v, -, hexec⟩ := exec_eq_yield_row i
  · exact absurd rfl hesc
  · exact absurd rfl (hundef b)
  · obtain ⟨-, hafter, hanswers⟩ := form_encode hwf hesc hexec
    exact ⟨v, fun t off h => decodeAnswers_ok_iff.mp (hanswers t off h), hafter⟩

/-! ## The first byte -/

/-- Settles O9: the escape is a defined byte of encoding length 2, whose class is the extended entry of the second byte. -/
theorem escapeSelectsTheExtendedTable : Obligations.EscapeSelectsTheExtendedTable := by
  refine ⟨fun s off hoff hesc => ?_, decode_escape, decode_escape_alone, fun s => ⟨fun hin => ?_, fun hend => ?_⟩,
    by decide⟩
  · have hdef : s.rom.read off ∉ undefinedBytes := hesc ▸ escapeByte_notMem_undefinedBytes
    have hlen : encodingLength (s.rom.read off) = 2 := hesc ▸ encodingLength_escape
    have hclass : s.classAt off = extendedEntry (s.rom.read (off + 1)) := by
      rw [State.classAt, hesc]
      exact encodedClass_escape _ _
    refine ⟨fun hin => decodeAnswers_ok_iff.mpr ?_, fun hend => decodeAnswers_error_iff.mpr ?_⟩
    · rw [State.decodeRef_defined hdef (by omega), hlen, hclass]
    · exact State.decodeRef_cutOff hoff hdef (by omega)
  · rw [exec_prefixCb_of_lt hin, afterDecode_eq_yield]
  · rw [exec_prefixCb_of_le hend, afterFailure_eq_raise]

/-- Settles O10: the first byte alone decides, before any other is read. -/
theorem undefinedBytesFail : Obligations.UndefinedBytesFail := by
  intro b (hundef : b ∈ undefinedBytes)
  refine ⟨decode_undefined hundef, fun s => ?_, fun s off hin hread => ?_⟩
  · rw [exec_undefined, afterFailure_eq_raise]
  · subst hread
    exact decodeAnswers_error_iff.mpr (State.decodeRef_undefined hin hundef)

/-- Settles O11: the closed form of the pseudocode, case by case. -/
theorem firstByteFixesLengthAndTruncation : Obligations.FirstByteFixesLengthAndTruncation := fun s off =>
  ⟨fun hend => decodeAnswers_error_iff.mpr (State.decodeRef_beyond hend), fun hoff hdef =>
    ⟨fun hin => ⟨s.classAt off, decodeAnswers_ok_iff.mpr (State.decodeRef_defined hdef hin)⟩,
      fun hend => decodeAnswers_error_iff.mpr (State.decodeRef_cutOff hoff hdef hend)⟩⟩

/-- Settles O12: the two places have the same first byte, hence the same length, and agree on the bytes their class
depends on. -/
theorem onlyTheConsumedBytesMatter : Obligations.OnlyTheConsumedBytesMatter := by
  intro s t off off' v n h
  obtain ⟨hdef, hin, rfl, rfl⟩ := State.decodeRef_eq_ok (decodeAnswers_ok_iff.mp h)
  refine ⟨hin, fun hin' hread => decodeAnswers_ok_iff.mpr ?_⟩
  have hfirst : t.rom.read off' = s.rom.read off := hread 0 (encodingLength_bounds _).1
  have hclass : t.classAt off' = s.classAt off := by
    rw [State.classAt, State.classAt, hfirst, encodedClass_congr (hread 1) (hread 2)]
  rw [State.decodeRef_defined (hfirst ▸ hdef) (hfirst ▸ hin'), hclass, hfirst]

/-! ## The step -/

theorem step_decode {s : State} {off : Nat} {rest : List Request} (hr : s.requests = .decode off :: rest) :
    step s = runAt off { s with requests := rest, op := .direct off } := step_request hr

theorem step_next {s : State} {rest : List Request} (hc : s.constructed = true) (hp : s.st = .positioned)
    (hr : s.requests = .next :: rest) : step s = runAt s.pos { s with requests := rest, op := .next } :=
  (step_request hr).trans (stepCursor_positioned (s := { s with requests := rest }) hc hp .next _)

theorem step_nextE {s : State} {rest : List Request} (hc : s.constructed = true) (hp : s.st = .positioned)
    (hr : s.requests = .nextE :: rest) : step s = runAt s.pos { s with requests := rest, op := .nextE } :=
  (step_request hr).trans (stepCursor_positioned (s := { s with requests := rest }) hc hp .nextE _)

/-- All the bytes at an offset, up to the longest encoding, are the decoder's window, whatever request is served. -/
theorem Holds.window_serving_eq {s : State} {off : Nat} {bytes : List Byte} (h : Holds s off bytes)
    (hlen : bytes.length = min 3 (s.len - off)) (rest : List Request) (op : DecodeOp) :
    ({ s with requests := rest, op := op } : State).window off = bytes := by
  obtain ⟨tail, hw⟩ := h.window_eq_append (by omega)
  have hpre : bytes <+: s.window off := ⟨tail, hw.symm⟩
  have hwin : s.window off = bytes := (hpre.eq_of_length (by rw [hlen, State.window_length])).symm
  exact (State.window_congr (by rfl) (by rfl) off).trans hwin

/-- Settles O5: each of the three requests runs the decoder at the offset, on these bytes. -/
theorem stepRunsTheDecodedRow : Obligations.StepRunsTheDecodedRow := by
  intro s off bytes i n rest hbytes hlen hd
  have hrun (op : DecodeOp) :
      runAt off { s with requests := rest, op := op } = exec i { s with requests := rest, op := op } :=
    runAt_of_decode_ok ((congrArg decode (hbytes.window_serving_eq hlen rest op)).trans hd)
  refine ⟨fun hr => (step_decode hr).trans (hrun _), fun hc hp hpos => ?_⟩
  subst hpos
  exact ⟨fun hr => (step_next hc hp hr).trans (hrun _), fun hr => (step_nextE hc hp hr).trans (hrun _)⟩

/-- Settles O6: each of the three requests runs the decoder at the offset, which fails on these bytes. -/
theorem stepOnUndecodableBytesFails : Obligations.StepOnUndecodableBytesFails := by
  intro s off bytes e rest hbytes hlen hd
  have hrun (op : DecodeOp) :
      runAt off { s with requests := rest, op := op } = .next ({ s with requests := rest, op := op }.raise e) :=
    runAt_of_decode_error ((congrArg decode (hbytes.window_serving_eq hlen rest op)).trans hd)
  refine ⟨decode_error hd, fun hr => (step_decode hr).trans (hrun _), fun hc hp hpos => ?_⟩
  subst hpos
  exact ⟨fun hr => (step_next hc hp hr).trans (hrun _), fun hr => (step_nextE hc hp hr).trans (hrun _)⟩

end Sys2Proof.Machine
end

section
/-! PROOFS. The one-byte control and accumulator forms (`spec/43_control_misc.md` R190 to R207). What R190 says in common
of them is what `form_encode` asks of a row: it has no operand that could be ill-formed, it is not the escape, and its
meaning delivers the class with one byte consumed. -/

namespace Sys2Proof.Machine

open Sys2Proof

/-- Settles O13: each of the nine rows is the form of its encoding, the one byte. -/
theorem controlForms : Obligations.ControlForms := by
  refine ⟨?nop, ?stop, ?halt, ?di, ?ei, ?ret, ?reti, ?jpHl, ?ldSpHl⟩ <;>
    exact form_encode (hwf := rfl) (hne := nofun) (hexec := fun _ => rfl)

/-- Settles O14: each of the eight rows is the form of its encoding, the one byte. -/
theorem accumulatorForms : Obligations.AccumulatorForms := by
  refine ⟨?rlca, ?rrca, ?rla, ?rra, ?daa, ?cpl, ?scf, ?ccf⟩ <;>
    exact form_encode (hwf := rfl) (hne := nofun) (hexec := fun _ => rfl)

end Sys2Proof.Machine
end

section
/-! PROOFS. Forms by their first byte, and what cuts a form off (`spec/42_decoder_top.md` R174, R176): that a form fails
when the end of the buffer cuts it off follows from its being a form. -/

namespace Sys2Proof.Machine

open Sys2Proof

/-- Two or more bytes that the decoder consumes whole begin with a defined byte, which fixes their number. -/
theorem length_eq_encodingLength_of_decode {b0 : Byte} {operands : List Byte} {i : Instr}
    (h : decode (b0 :: operands) = .ok (i, (b0 :: operands).length)) (hne : operands ≠ []) :
    b0 ∉ undefinedBytes ∧ (b0 :: operands).length = encodingLength b0 := by
  have hpos := List.length_pos_iff.mpr hne
  rcases decode_ok_cases h with ⟨hbs, -, -⟩ | ⟨b1, rest, hbs, -, hn⟩ | ⟨-, -, -, -, -, hn⟩ |
    ⟨b0, -, -, rest, hbs, hesc, hdef, -, -, hn⟩
  · exact absurd (List.cons.inj hbs).2 hne
  · obtain ⟨rfl, -⟩ := List.cons.inj hbs
    exact ⟨escapeByte_notMem_undefinedBytes, hn⟩
  · rw [List.length_cons] at hn
    omega
  · obtain ⟨rfl, -⟩ := List.cons.inj hbs
    exact ⟨hdef, hn.trans (encodingLength_primary hesc).symm⟩

/-- A form cut off by the end of the buffer fails: the first byte that is left fixes the length of the whole. -/
theorem Form.cutOffFails {row : Instr} {bytes : List Byte} {v : Instruction} (h : Form row bytes v) :
    CutOffFails bytes := by
  intro s off k hk hlt hend hholds
  obtain ⟨hdecode, -, -⟩ := h
  obtain ⟨-, hread⟩ := hholds
  match bytes, hlt, hdecode [], hread with
  | b0 :: operands, hlt, hdecode, hread =>
    have hne : operands ≠ [] := by
      rintro rfl
      rw [List.length_singleton] at hlt
      omega
    rw [List.append_nil] at hdecode
    obtain ⟨hdef, hlen⟩ := length_eq_encodingLength_of_decode hdecode hne
    have hfirst : s.rom.read off = b0 := by
      have hkept : 0 < ((b0 :: operands).take k).length := by
        rw [List.length_take]
        omega
      have hzero := hread 0 hkept
      simpa using hzero
    subst hfirst
    exact decodeAnswers_error_iff.mpr (State.decodeRef_cutOff (by omega) hdef (by omega))

/-- A defined byte is, with the operand bytes it asks for, a form of its class (`PRIMARY` of R170). -/
theorem form_primaryRow {b0 : Byte} (hesc : b0 ≠ escapeByte) (hdef : b0 ∉ undefinedBytes) (b1 b2 : Byte) :
    Form (primaryRow b0 b1 b2) ([b0, b1, b2].take (1 + operandWidth b0)) (primaryClass b0 b1 b2) := by
  have hencode := encode_primaryRow b0 b1 b2
  have hwidth := operandWidth_le b0
  rw [← hencode]
  refine form_encode (primaryRow_wf hesc hdef b1 b2) (fun hrow => ?_) (fun s => ?_)
  · rw [hrow, Nat.add_comm, List.take_succ_cons] at hencode
    exact hesc (List.cons.inj hencode).1.symm
  · rw [exec_primaryRow hesc hdef, hencode, List.length_take, Nat.min_eq_left]
    simp only [List.length_cons, List.length_nil]
    omega

end Sys2Proof.Machine
end

section
/-! PROOFS. The load, store, move and stack forms (`spec/44_loads.md` R220 to R239), and a few sample words. Where the
row alone spells its one byte, the form is `form_encode` of the row; the others are read off the row and the class of their
first byte. -/

namespace Sys2Proof.Machine

open Sys2Proof

/-! ## Immediate loads (R221, R222) -/

theorem ldImmByte_defined : ∀ y : BitVec 3,
    0b00#2 ++ y ++ 0b110#3 ≠ escapeByte ∧ 0b00#2 ++ y ++ 0b110#3 ∉ undefinedBytes := by decide

theorem ldWordByte_defined : ∀ p : BitVec 2,
    0b00#2 ++ p ++ 0b0001#4 ≠ escapeByte ∧ 0b00#2 ++ p ++ 0b0001#4 ∉ undefinedBytes := by decide

theorem form_ldImmByte (y : BitVec 3) (d8 : Byte) :
    Form (ldImmRow d8 (memberR8 y)) [0b00#2 ++ y ++ 0b110#3, d8] (.ldR8Imm (memberR8 y) d8) := by
  obtain ⟨hesc, hdef⟩ := ldImmByte_defined y
  have h := form_primaryRow hesc hdef d8 0
  rcases bitVec3_cases y with rfl | rfl | rfl | rfl | rfl | rfl | rfl | rfl <;> exact h

theorem form_ldWordByte (p : BitVec 2) (b1 b2 : Byte) :
    Form (ldWordRow (b2 ++ b1) p) [0b00#2 ++ p ++ 0b0001#4, b1, b2] (.ldR16Imm (memberSp p) (b2 ++ b1)) := by
  obtain ⟨hesc, hdef⟩ := ldWordByte_defined p
  have h := form_primaryRow hesc hdef b1 b2
  rw [← le16_eq_append]
  rcases bitVec2_cases p with rfl | rfl | rfl | rfl <;> exact h

/-- Settles O15: both families are forms for every value of their field, and forms fail when cut off. -/
theorem immediateLoadForms : Obligations.ImmediateLoadForms :=
  ⟨fun y d8 => ⟨form_ldImmByte y d8, (form_ldImmByte y d8).cutOffFails⟩,
    fun p b1 b2 => ⟨form_ldWordByte p b1 b2, (form_ldWordByte p b1 b2).cutOffFails⟩⟩

/-! ## Moves (R223) -/

theorem moveByte_plain : ∀ y z : BitVec 3, 0b01#2 ++ y ++ z ≠ escapeByte ∧ 0b01#2 ++ y ++ z ∉ undefinedBytes ∧
    operandWidth (0b01#2 ++ y ++ z) = 0 := by decide

theorem primaryRow_moveByte : ∀ y z : BitVec 3,
    primaryRow (0b01#2 ++ y ++ z) 0 0 = moveRow (memberR8 y) (memberR8 z) := by decide

/-- The hole of the move range is `HALT` (`spec/30_encoding.md` R102). -/
theorem primaryClass_moveByte : ∀ y z : BitVec 3, ¬ (y = 6#3 ∧ z = 6#3) →
    primaryClass (0b01#2 ++ y ++ z) 0 0 = .ldR8R8 (memberR8 y) (memberR8 z) := by decide

/-- Settles O16: outside the hole the class of the byte is the move of its two fields. -/
theorem moveForms : Obligations.MoveForms := by
  intro y z hne
  obtain ⟨hesc, hdef, hwidth⟩ := moveByte_plain y z
  have h := form_primaryRow hesc hdef 0 0
  rw [primaryRow_moveByte, hwidth, primaryClass_moveByte y z hne] at h
  exact h

/-! ## The accumulator through a pointer (R224 to R229) -/

/-- Settles O17: each of the eight rows is the form of its encoding, the one byte. -/
theorem pointerForms : Obligations.PointerForms := by
  refine ⟨?stBc, ?stDe, ?ldBc, ?ldDe, ?stHlInc, ?stHlDec, ?ldHlInc, ?ldHlDec⟩ <;>
    exact form_encode (hwf := rfl) (hne := nofun) (hexec := fun _ => rfl)

/-! ## High page, absolute addresses and the stack pointer (R230 to R237) -/

/-- Settles O18: the operand is kept as the decoder reads it, a raw byte, the signed reading of a byte, or a
little-endian word; and forms fail when cut off. -/
theorem highPageAndAbsoluteForms : Obligations.HighPageAndAbsoluteForms := by
  unfold Obligations.HighPageAndAbsoluteForms
  simp only [← sint8_eq_toInt, ← le16_eq_append]
  refine ⟨fun b1 => ?high, ?stHighC, ?ldHighC, fun b1 b2 => ?wide⟩
  case high =>
    have hst := form_primaryRow (b0 := 0xE0#8) (by decide) (by decide) b1 0
    have hld := form_primaryRow (b0 := 0xF0#8) (by decide) (by decide) b1 0
    have hsp := form_primaryRow (b0 := 0xF8#8) (by decide) (by decide) b1 0
    exact ⟨hst, hst.cutOffFails, hld, hld.cutOffFails, hsp, hsp.cutOffFails⟩
  case stHighC => exact form_primaryRow (b0 := 0xE2#8) (by decide) (by decide) 0 0
  case ldHighC => exact form_primaryRow (b0 := 0xF2#8) (by decide) (by decide) 0 0
  case wide =>
    have hst := form_primaryRow (b0 := 0xEA#8) (by decide) (by decide) b1 b2
    have hld := form_primaryRow (b0 := 0xFA#8) (by decide) (by decide) b1 b2
    have hsp := form_primaryRow (b0 := 0x08#8) (by decide) (by decide) b1 b2
    exact ⟨hst, hst.cutOffFails, hld, hld.cutOffFails, hsp, hsp.cutOffFails⟩

/-! ## The stack (R238, R239) -/

theorem form_pushByte (p : BitVec 2) : Form (pushRow p) [0b11#2 ++ p ++ 0b0101#4] (.push (memberAf p)) := by
  rcases bitVec2_cases p with rfl | rfl | rfl | rfl <;>
    exact form_encode (hwf := rfl) (hne := nofun) (hexec := fun _ => rfl)

theorem form_popByte (p : BitVec 2) : Form (popRow p) [0b11#2 ++ p ++ 0b0001#4] (.pop (memberAf p)) := by
  rcases bitVec2_cases p with rfl | rfl | rfl | rfl <;>
    exact form_encode (hwf := rfl) (hne := nofun) (hexec := fun _ => rfl)

/-- Settles O19: for each of the four codes the row is the form of its encoding, the one byte. -/
theorem pushPopForms : Obligations.PushPopForms := fun p => ⟨form_pushByte p, form_popByte p⟩

/-! ## Sample words (`spec/95_test_vectors.md`) -/

/-- Settles O3: the decoder is run on the seven words. -/
theorem sampleWordsDecode : Obligations.SampleWordsDecode := ⟨rfl, rfl, rfl, rfl, rfl, rfl, rfl⟩

end Sys2Proof.Machine
end

section
/-! PROOFS. The ALU forms (`spec/45_alu.md` R250 to R272) but for those of the ALU range, which stand before; and the
operand arithmetic in exact values (R273). A form of a family is `form_encode` of its row at each value of the field. -/

namespace Sys2Proof.Machine

open Sys2Proof

/-! ## Immediate operations (R259 to R266) -/

theorem form_aluImmByte (d8 : Byte) (y : BitVec 3) :
    Form (aluImmRow d8 (aluOp y)) [0b11#2 ++ y ++ 0b110#3, d8] (aluImmClass (aluOp y) d8) := by
  rcases bitVec3_cases y with rfl | rfl | rfl | rfl | rfl | rfl | rfl | rfl <;>
    exact form_encode (hwf := rfl) (hne := nofun) (hexec := fun _ => rfl)

/-- Settles O21: the eight operations are the eight values of the field `y`; and forms fail when cut off. -/
theorem aluImmediateForms : Obligations.AluImmediateForms := fun d8 =>
  have hform := form_aluImmByte d8
  have hcut (y : BitVec 3) := (hform y).cutOffFails
  ⟨hform 0, hcut 0, hform 1, hcut 1, hform 2, hcut 2, hform 3, hcut 3,
    hform 4, hcut 4, hform 5, hcut 5, hform 6, hcut 6, hform 7, hcut 7⟩

/-! ## Increments and decrements (R267 to R270) -/

theorem form_incByte (y : BitVec 3) :
    Form (incRow (memberR8 y)) [0b00#2 ++ y ++ 0b100#3] (.inc8 (memberR8 y)) := by
  rcases bitVec3_cases y with rfl | rfl | rfl | rfl | rfl | rfl | rfl | rfl <;>
    exact form_encode (hwf := rfl) (hne := nofun) (hexec := fun _ => rfl)

theorem form_decByte (y : BitVec 3) :
    Form (decRow (memberR8 y)) [0b00#2 ++ y ++ 0b101#3] (.dec8 (memberR8 y)) := by
  rcases bitVec3_cases y with rfl | rfl | rfl | rfl | rfl | rfl | rfl | rfl <;>
    exact form_encode (hwf := rfl) (hne := nofun) (hexec := fun _ => rfl)

theorem form_incWordByte (p : BitVec 2) :
    Form (incWordRow p) [0b00#2 ++ p ++ 0b0011#4] (.inc16 (memberSp p)) := by
  rcases bitVec2_cases p with rfl | rfl | rfl | rfl <;>
    exact form_encode (hwf := rfl) (hne := nofun) (hexec := fun _ => rfl)

theorem form_decWordByte (p : BitVec 2) :
    Form (decWordRow p) [0b00#2 ++ p ++ 0b1011#4] (.dec16 (memberSp p)) := by
  rcases bitVec2_cases p with rfl | rfl | rfl | rfl <;>
    exact form_encode (hwf := rfl) (hne := nofun) (hexec := fun _ => rfl)

/-- Settles O22: for each register code and each pair code the row is the form of its encoding, the one byte. -/
theorem incrementDecrementForms : Obligations.IncrementDecrementForms :=
  ⟨fun y => ⟨form_incByte y, form_decByte y⟩, fun p => ⟨form_incWordByte p, form_decWordByte p⟩⟩

/-! ## Wide additions (R271, R272) -/

theorem form_addHlByte (p : BitVec 2) : Form (addHlRow p) [0b00#2 ++ p ++ 0b1001#4] (.addHl (memberSp p)) := by
  rcases bitVec2_cases p with rfl | rfl | rfl | rfl <;>
    exact form_encode (hwf := rfl) (hne := nofun) (hexec := fun _ => rfl)

/-- The offset is kept as the decoder reads it, signed. -/
theorem form_addSpByte (b1 : Byte) : Form (.addSpE8 b1.toInt) [0xE8#8, b1] (.addSpOff b1.toInt) := by
  rw [← sint8_eq_toInt]
  exact form_primaryRow (b0 := 0xE8#8) (by decide) (by decide) b1 0

/-- Settles O23: both kinds are forms, and a form fails when cut off. -/
theorem wideAddForms : Obligations.WideAddForms :=
  ⟨form_addHlByte, fun b1 => ⟨form_addSpByte b1, (form_addSpByte b1).cutOffFails⟩⟩

/-! ## Operand arithmetic (R273) -/

theorem be16_toNat (b0 b1 : Byte) : (be16 b0 b1).toNat = 256 * b0.toNat + b1.toNat := by
  rw [be16_eq_append, ← le16_eq_append, le16_toNat, Nat.add_comm]

theorem sint8_of_lt {b : Byte} (h : b.toNat < 128) : sint8 b = b.toNat := if_pos h

theorem sint8_of_le {b : Byte} (h : 128 ≤ b.toNat) : sint8 b = (b.toNat : Int) - 256 := if_neg (Nat.not_lt.mpr h)

theorem sint8_injective : Function.Injective sint8 := Function.LeftInverse.injective offsetByte_sint8

/-- Settles O47: `offsetByte` is the inverse of `sint8` on the signed range. -/
theorem operandArithmeticIsExact : Obligations.OperandArithmeticIsExact := by
  refine ⟨fun b0 b1 => ⟨le16_toNat b0 b1, be16_toNat b0 b1⟩, fun b => ⟨sint8_of_lt, sint8_of_le⟩,
    fun e hlow hhigh => ?_⟩
  have hread : sint8 (offsetByte e) = e := sint8_offsetByte (signedByteRange_iff.mpr ⟨hlow, hhigh⟩)
  exact ⟨offsetByte e, hread, fun b' hb' => sint8_injective (hb'.trans hread.symm)⟩

end Sys2Proof.Machine
end

section
/-! PROOFS. The jump, call, return and reset forms (`spec/46_flow.md` R280 to R288). The target is the form's operand and
nothing more (R280), so a form with an operand is read off the row and the class of its first byte, at each of the four
conditions; a form of one byte is `form_encode` of its row. -/

namespace Sys2Proof.Machine

open Sys2Proof

/-! ## Relative jumps (R281, R282) -/

/-- The offset is kept as the decoder reads it, signed. -/
theorem form_jrByte (b1 : Byte) : Form (.jrE8 b1.toInt) [0x18#8, b1] (.jr b1.toInt) := by
  rw [← sint8_eq_toInt]
  exact form_primaryRow (b0 := 0x18#8) (by decide) (by decide) b1 0

theorem jrCcByte_defined : ∀ cc : BitVec 2,
    0b001#3 ++ cc ++ 0b000#3 ≠ escapeByte ∧ 0b001#3 ++ cc ++ 0b000#3 ∉ undefinedBytes := by decide

theorem form_jrCcByte (b1 : Byte) (cc : BitVec 2) :
    Form (jrCcRow b1.toInt (memberCc cc)) [0b001#3 ++ cc ++ 0b000#3, b1] (.jrCc (memberCc cc) b1.toInt) := by
  obtain ⟨hesc, hdef⟩ := jrCcByte_defined cc
  have h := form_primaryRow hesc hdef b1 0
  rw [← sint8_eq_toInt]
  rcases bitVec2_cases cc with rfl | rfl | rfl | rfl <;> exact h

/-- Settles O24: the jump and its four conditional kinds are forms, and a form fails when cut off. -/
theorem relativeJumpForms : Obligations.RelativeJumpForms := fun b1 =>
  ⟨form_jrByte b1, (form_jrByte b1).cutOffFails,
    fun cc => ⟨form_jrCcByte b1 cc, (form_jrCcByte b1 cc).cutOffFails⟩⟩

/-! ## Absolute jumps and calls (R283 to R286) -/

theorem form_jpByte (b1 b2 : Byte) : Form (.jpA16 (b2 ++ b1)) [0xC3#8, b1, b2] (.jp (b2 ++ b1)) := by
  rw [← le16_eq_append]
  exact form_primaryRow (b0 := 0xC3#8) (by decide) (by decide) b1 b2

theorem form_callByte (b1 b2 : Byte) : Form (.callA16 (b2 ++ b1)) [0xCD#8, b1, b2] (.call (b2 ++ b1)) := by
  rw [← le16_eq_append]
  exact form_primaryRow (b0 := 0xCD#8) (by decide) (by decide) b1 b2

theorem jpCcByte_defined : ∀ cc : BitVec 2,
    0b110#3 ++ cc ++ 0b010#3 ≠ escapeByte ∧ 0b110#3 ++ cc ++ 0b010#3 ∉ undefinedBytes := by decide

theorem form_jpCcByte (b1 b2 : Byte) (cc : BitVec 2) :
    Form (jpCcRow (b2 ++ b1) (memberCc cc)) [0b110#3 ++ cc ++ 0b010#3, b1, b2] (.jpCc (memberCc cc) (b2 ++ b1)) := by
  obtain ⟨hesc, hdef⟩ := jpCcByte_defined cc
  have h := form_primaryRow hesc hdef b1 b2
  rw [← le16_eq_append]
  rcases bitVec2_cases cc with rfl | rfl | rfl | rfl <;> exact h

theorem callCcByte_defined : ∀ cc : BitVec 2,
    0b110#3 ++ cc ++ 0b100#3 ≠ escapeByte ∧ 0b110#3 ++ cc ++ 0b100#3 ∉ undefinedBytes := by decide

theorem form_callCcByte (b1 b2 : Byte) (cc : BitVec 2) :
    Form (callCcRow (b2 ++ b1) (memberCc cc)) [0b110#3 ++ cc ++ 0b100#3, b1, b2] (.callCc (memberCc cc) (b2 ++ b1)) := by
  obtain ⟨hesc, hdef⟩ := callCcByte_defined cc
  have h := form_primaryRow hesc hdef b1 b2
  rw [← le16_eq_append]
  rcases bitVec2_cases cc with rfl | rfl | rfl | rfl <;> exact h

/-- Settles O25: the jump, the call and their conditional kinds are forms, and a form fails when cut off. -/
theorem absoluteJumpAndCallForms : Obligations.AbsoluteJumpAndCallForms := fun b1 b2 =>
  have hjp := form_jpByte b1 b2
  have hcall := form_callByte b1 b2
  ⟨hjp, hjp.cutOffFails, hcall, hcall.cutOffFails, fun cc =>
    have hjpCc := form_jpCcByte b1 b2 cc
    have hcallCc := form_callCcByte b1 b2 cc
    ⟨hjpCc, hjpCc.cutOffFails, hcallCc, hcallCc.cutOffFails⟩⟩

/-! ## Conditional returns and resets (R287, R288) -/

theorem form_retCcByte (cc : BitVec 2) :
    Form (retCcRow (memberCc cc)) [0b110#3 ++ cc ++ 0b000#3] (.retCc (memberCc cc)) := by
  rcases bitVec2_cases cc with rfl | rfl | rfl | rfl <;>
    exact form_encode (hwf := rfl) (hne := nofun) (hexec := fun _ => rfl)

theorem form_rstByte (t : BitVec 3) :
    Form (rstRow t) [0b11#2 ++ t ++ 0b111#3] (.rst (BitVec.ofNat 8 (8 * t.toNat))) := by
  rcases bitVec3_cases t with rfl | rfl | rfl | rfl | rfl | rfl | rfl | rfl <;>
    exact form_encode (hwf := rfl) (hne := nofun) (hexec := fun _ => rfl)

/-- Settles O26: for each condition and each reset number the row is the form of its encoding, the one byte. -/
theorem returnAndResetForms : Obligations.ReturnAndResetForms := ⟨form_retCcByte, form_rstByte⟩

end Sys2Proof.Machine
end

section
/-! PROOFS. The escape-prefixed forms (`spec/47_extended.md` R300 to R311). Every index byte is a form of its entry of the
extended table; the families are read off the table, whose entries are named by the fields of the index. -/

namespace Sys2Proof.Machine

open Sys2Proof

/-- After the escape every byte is a form of its entry of the extended table (`EXT` of R170; R300). -/
theorem form_extendedRow {b1 : Byte} {row : Instr} {v : Instruction} (hrow : extendedRow b1 = row)
    (hentry : extendedEntry b1 = v) : Form row [0xCB#8, b1] v := by
  subst hrow hentry
  exact Form.intro (by simp) (decode_escape b1) (exec_extendedRow b1)

/-! ## Rotates, shifts and swap (R301 to R308) -/

/-- The class of rotate, shift or swap operation `o` on a register operand (R301 to R308). -/
def rotClass (o : RotOp) (r : Register8) : Instruction :=
  match o with
  | .rlc => .rlc r | .rrc => .rrc r | .rl => .rl r | .rr => .rr r
  | .sla => .sla r | .sra => .sra r | .swap => .swap r | .srl => .srl r

theorem extendedRow_rotIndex : ∀ y z : BitVec 3,
    extendedRow (0b00#2 ++ y ++ z) = rotRow (rotOp y) (memberR8 z) := by decide

theorem extendedEntry_rotIndex : ∀ y z : BitVec 3,
    extendedEntry (0b00#2 ++ y ++ z) = rotClass (rotOp y) (memberR8 z) := by decide

theorem form_rotIndex (y z : BitVec 3) :
    Form (rotRow (rotOp y) (memberR8 z)) [0xCB#8, 0b00#2 ++ y ++ z] (rotClass (rotOp y) (memberR8 z)) :=
  form_extendedRow (extendedRow_rotIndex _ _) (extendedEntry_rotIndex _ _)

/-- Settles O27: the eight operations are the eight values of the field `y`; and forms fail when cut off. -/
theorem rotateShiftForms : Obligations.RotateShiftForms := fun z =>
  have hform (y : BitVec 3) := form_rotIndex y z
  have hcut (y : BitVec 3) := (hform y).cutOffFails
  ⟨hform 0, hcut 0, hform 1, hcut 1, hform 2, hcut 2, hform 3, hcut 3,
    hform 4, hcut 4, hform 5, hcut 5, hform 6, hcut 6, hform 7, hcut 7⟩

/-! ## Single bits (R309 to R311) -/

theorem extendedRow_bitIndex : ∀ b z : BitVec 3,
    extendedRow (0b01#2 ++ b ++ z) = bitRow b.toFin (memberR8 z) := by decide

theorem extendedEntry_bitIndex : ∀ b z : BitVec 3,
    extendedEntry (0b01#2 ++ b ++ z) = .bit b.toFin (memberR8 z) := by decide

theorem form_bitIndex (b z : BitVec 3) :
    Form (bitRow b.toFin (memberR8 z)) [0xCB#8, 0b01#2 ++ b ++ z] (.bit b.toFin (memberR8 z)) :=
  form_extendedRow (extendedRow_bitIndex _ _) (extendedEntry_bitIndex _ _)

theorem extendedRow_resIndex : ∀ b z : BitVec 3,
    extendedRow (0b10#2 ++ b ++ z) = resRow b.toFin (memberR8 z) := by decide

theorem extendedEntry_resIndex : ∀ b z : BitVec 3,
    extendedEntry (0b10#2 ++ b ++ z) = .res b.toFin (memberR8 z) := by decide

theorem form_resIndex (b z : BitVec 3) :
    Form (resRow b.toFin (memberR8 z)) [0xCB#8, 0b10#2 ++ b ++ z] (.res b.toFin (memberR8 z)) :=
  form_extendedRow (extendedRow_resIndex _ _) (extendedEntry_resIndex _ _)

theorem extendedRow_setIndex : ∀ b z : BitVec 3,
    extendedRow (0b11#2 ++ b ++ z) = setRow b.toFin (memberR8 z) := by decide

theorem extendedEntry_setIndex : ∀ b z : BitVec 3,
    extendedEntry (0b11#2 ++ b ++ z) = .set b.toFin (memberR8 z) := by decide

theorem form_setIndex (b z : BitVec 3) :
    Form (setRow b.toFin (memberR8 z)) [0xCB#8, 0b11#2 ++ b ++ z] (.set b.toFin (memberR8 z)) :=
  form_extendedRow (extendedRow_setIndex _ _) (extendedEntry_setIndex _ _)

/-- Settles O28: the three operations at every index and operand are forms, and a form fails when cut off. -/
theorem bitForms : Obligations.BitForms := fun b z =>
  have hbit := form_bitIndex b z
  have hres := form_resIndex b z
  have hset := form_setIndex b z
  ⟨hbit, hbit.cutOffFails, hres, hres.cutOffFails, hset, hset.cutOffFails⟩

end Sys2Proof.Machine
end

section
/-! PROOFS. The cursor's requests, one at a time (`spec/48_stream_cursor.md` R321 to R328): `INIT` in its two cases, and
`NEXT` and `NEXT_E` by what the pseudocode of `DECODE` answers at `POS`. -/

namespace Sys2Proof.Machine

open Sys2Proof

/-! ## `INIT` (R321) -/

theorem State.initCursor_of_le {s : State} {start : Nat} (h : start ≤ s.len) :
    s.initCursor start = { s.setPositioned with pos := start, constructed := true } := if_pos h

theorem State.initCursor_of_lt {s : State} {start : Nat} (h : s.len < start) :
    s.initCursor start = { s.setExhausted .outOfData with pos := s.len, constructed := true } :=
  if_neg (Nat.not_le.mpr h)

@[simp] theorem State.initCursor_constructed (s : State) (start : Nat) : (s.initCursor start).constructed = true := by
  unfold State.initCursor; split <;> rfl

@[simp] theorem State.initCursor_requests (s : State) (start : Nat) : (s.initCursor start).requests = s.requests := by
  unfold State.initCursor; split <;> rfl

@[simp] theorem State.initCursor_delivered (s : State) (start : Nat) : (s.initCursor start).delivered = s.delivered := by
  unfold State.initCursor; split <;> rfl

/-- Settles O29: `CAUSE` after a start within `LEN` is the free value drawn there. -/
theorem initConstructsTheCursor : Obligations.InitConstructsTheCursor := fun s _ =>
  ⟨fun hin => ⟨Config.freeCause s.freeCount, congrArg Host.Outcome.next (State.initCursor_of_le hin)⟩,
    fun hbeyond => congrArg Host.Outcome.next (State.initCursor_of_lt hbeyond)⟩

/-- Settles O43: the start 0 is within `LEN = 0`. -/
theorem resetIsTheConstructionOfACursor : Obligations.ResetIsTheConstructionOfACursor :=
  (initConstructsTheCursor (State.unconstructed [] 0) 0).1 le_rfl

/-! ## `NEXT` and `NEXT_E` (R322 to R326) -/

/-- A cursor was never constructed, or it is exhausted or positioned. -/
theorem State.cursor_cases (s : State) : s.constructed = false ∨
    (s.constructed = true ∧ s.st = .exhausted) ∨ (s.constructed = true ∧ s.st = .positioned) := by
  cases s.constructed <;> cases s.st <;> simp

/-- On a positioned cursor a cursor request concludes as the pseudocode of `DECODE` does at `POS`. -/
theorem stepCursor_positioned_eq {s : State} (hc : s.constructed = true) (hp : s.st = .positioned) {op : DecodeOp}
    (hop : op = .next ∨ op = .nextE) (r : Response) :
    stepCursor op r s = .next ({ s with op := op }.conclude (s.decodeRef s.pos)) := by
  have hf : ({ s with op := op } : State).fetchOffset = s.pos := by rcases hop with rfl | rfl <;> rfl
  rw [stepCursor_positioned hc hp, runAt_eq_decodeRef hf, State.decodeRef_serving]

theorem serve_next_positioned {s : State} (hc : s.constructed = true) (hp : s.st = .positioned) :
    serve .next s = .next ({ s with op := .next }.conclude (s.decodeRef s.pos)) :=
  stepCursor_positioned_eq hc hp (.inl rfl) _

theorem serve_nextE_positioned {s : State} (hc : s.constructed = true) (hp : s.st = .positioned) :
    serve .nextE s = .next ({ s with op := .nextE }.conclude (s.decodeRef s.pos)) :=
  stepCursor_positioned_eq hc hp (.inr rfl) _

theorem serve_next_exhausted {s : State} (hc : s.constructed = true) (hx : s.st = .exhausted) :
    serve .next s = .next ({ s with op := .next }.respond .nextNone) := stepCursor_exhausted hc hx _ _

theorem serve_nextE_exhausted {s : State} (hc : s.constructed = true) (hx : s.st = .exhausted) :
    serve .nextE s = .next ({ s with op := .nextE }.respond (.ended s.cause)) := stepCursor_exhausted hc hx _ _

theorem serve_next_ok {s : State} {i : Instruction} {n : Nat} (hc : s.constructed = true) (hp : s.st = .positioned)
    (hd : s.decodeRef s.pos = .ok (i, n)) :
    serve .next s = .next (({ s with op := .next }.advance n).respond (.nextSome i)) := by
  rw [serve_next_positioned hc hp, hd]
  rfl

theorem serve_next_error {s : State} {e : Error} (hc : s.constructed = true) (hp : s.st = .positioned)
    (hd : s.decodeRef s.pos = .error e) :
    serve .next s = .next (({ s with op := .next }.setExhausted e).respond .nextNone) := by
  rw [serve_next_positioned hc hp, hd]
  rfl

/-- Settles O30: exhausted, `NEXT` only answers; positioned, it concludes as the pseudocode of `DECODE` does. -/
theorem nextDecodesAtThePosition : Obligations.NextDecodesAtThePosition := fun _ hc =>
  ⟨serve_next_exhausted hc, fun hp _ _ => serve_next_ok hc hp, fun hp _ => serve_next_error hc hp⟩

/-- Settles O31: both requests answer on the same exhausted cursor, or conclude the same decode. -/
theorem nextAndNextEDifferOnlyInTheAnswer : Obligations.NextAndNextEDifferOnlyInTheAnswer := by
  intro s t ht
  obtain hc | ⟨hc, hx⟩ | ⟨hc, hp⟩ := s.cursor_cases
  · cases (stepCursor_refused hc .next .nextNone).symm.trans ht
  · cases (serve_next_exhausted hc hx).symm.trans ht
    exact ⟨_, _, rfl, serve_nextE_exhausted hc hx, .inr ⟨rfl, rfl⟩⟩
  · rw [serve_next_positioned hc hp] at ht
    rw [serve_nextE_positioned hc hp]
    rcases hd : s.decodeRef s.pos with e | ⟨v, n⟩ <;> rw [hd] at ht <;> cases ht
    · exact ⟨_, _, rfl, rfl, .inr ⟨rfl, rfl⟩⟩
    · exact ⟨_, _, rfl, rfl, .inl ⟨v, rfl, rfl⟩⟩

/-- Why the pseudocode of `DECODE` fails at an offset (R327): an undefined byte stands there, or nothing does, or the
encoding that begins there is cut off. -/
theorem State.decodeRef_error_reason {s : State} {off : Nat} {e : Error} (h : s.decodeRef off = .error e) :
    (off < s.len ∧ s.rom.read off ∈ undefinedBytes ∧ e = .undefinedOpcode (s.rom.read off)) ∨
      (e = .outOfData ∧ (s.len ≤ off ∨
        (off < s.len ∧ s.rom.read off ∉ undefinedBytes ∧ s.len < off + encodingLength (s.rom.read off)))) := by
  rcases Nat.lt_or_ge off s.len with hin | hbeyond
  · by_cases hundef : s.rom.read off ∈ undefinedBytes
    · cases (State.decodeRef_undefined hin hundef).symm.trans h
      exact .inl ⟨hin, hundef, rfl⟩
    · rcases Nat.lt_or_ge s.len (off + encodingLength (s.rom.read off)) with hend | hall
      · cases (State.decodeRef_cutOff hin hundef hend).symm.trans h
        exact .inr ⟨rfl, .inr ⟨hin, hundef, hend⟩⟩
      · cases (State.decodeRef_defined hundef hall).symm.trans h
  · cases (State.decodeRef_beyond hbeyond).symm.trans h
    exact .inr ⟨rfl, .inl hbeyond⟩

/-- Settles O40: a decode that succeeds leaves the cursor positioned, so `NEXT_E` took a failure, which has its reason. -/
theorem terminalErrorTellsWhyDecodingStopped : Obligations.TerminalErrorTellsWhyDecodingStopped := by
  intro s t hc hp hle ht hx
  rw [serve_nextE_positioned hc hp] at ht
  rcases hd : s.decodeRef s.pos with e | ⟨v, n⟩ <;> rw [hd] at ht <;> cases ht
  · refine ⟨e, rfl, rfl, rfl, (State.decodeRef_error_reason hd).imp_right ?_⟩
    exact And.imp_right (Or.imp_left (Nat.le_antisymm hle))
  · cases hp.symm.trans hx

/-! ## The pure operations (R383) -/

/-- The pseudocode of `DECODE` reads the buffer alone. -/
theorem State.decodeRef_congr {s t : State} (hr : s.rom = t.rom) (hl : s.len = t.len) (off : Nat) :
    s.decodeRef off = t.decodeRef off := by
  simp only [State.decodeRef_eq, State.need, State.classAt, hr, hl]

/-- Settles O38: the outcomes of the parser and of the pseudocode depend on the buffer, a verdict on the record. -/
theorem pureOperationsTouchNoState : Obligations.PureOperationsTouchNoState := by
  intro r s t hpure hr hl
  cases r with
  | parseHeader =>
    have hsame : s.parseHeader = t.parseHeader := State.parseHeader_congr (by rw [hl]) fun _ _ _ _ => by rw [hr]
    exact ⟨headerResponse s.parseHeader, s.op, t.op, serve_parseHeader_eq s, hsame ▸ serve_parseHeader_eq t⟩
  | validate h =>
    cases hv : validate h with
    | none => exact ⟨.valid, s.op, t.op, serve_validate_none hv s, serve_validate_none hv t⟩
    | some v => exact ⟨.invalid v, s.op, t.op, serve_validate_some hv s, serve_validate_some hv t⟩
  | decode off =>
    exact ⟨decodeResponse (s.decodeRef off), .direct off, .direct off, serve_decode_eq off s,
      State.decodeRef_congr hr hl off ▸ serve_decode_eq off t⟩
  | init _ | next | nextE => cases hpure

/-! ## Refusals (R322) -/

theorem stepCursor_next_or_refused {op : DecodeOp} (hop : op = .next ∨ op = .nextE) (a : Response) (s : State) :
    ((∃ t, stepCursor op a s = .next t) ∧ s.constructed = true) ∨
      (stepCursor op a s = .refused .cursorNeverConstructed ∧ s.constructed = false) := by
  obtain hc | ⟨hc, hx⟩ | ⟨hc, hp⟩ := s.cursor_cases
  · exact .inr ⟨stepCursor_refused hc _ _, hc⟩
  · exact .inl ⟨⟨_, stepCursor_exhausted hc hx _ _⟩, hc⟩
  · exact .inl ⟨⟨_, stepCursor_positioned_eq hc hp hop _⟩, hc⟩

/-- A request is answered, or it is one of the cursor and no cursor was constructed. -/
theorem serve_cases (r : Request) (s : State) :
    ((∃ t, serve r s = .next t) ∧ (r = .next ∨ r = .nextE → s.constructed = true)) ∨
      (serve r s = .refused .cursorNeverConstructed ∧ s.constructed = false ∧ (r = .next ∨ r = .nextE)) := by
  cases r with
  | parseHeader => exact .inl ⟨⟨_, serve_parseHeader_eq s⟩, nofun⟩
  | validate h =>
    obtain ⟨_, ht, -⟩ := serve_validate h s
    exact .inl ⟨⟨_, ht⟩, nofun⟩
  | decode off => exact .inl ⟨⟨_, serve_decode_eq off s⟩, nofun⟩
  | init start => exact .inl ⟨⟨_, serve_init start s⟩, nofun⟩
  | next =>
    exact (stepCursor_next_or_refused (.inl rfl) .nextNone s).imp (And.imp_right fun hc _ => hc)
      (And.imp_right (⟨·, .inl rfl⟩))
  | nextE =>
    exact (stepCursor_next_or_refused (.inr rfl) (.ended s.cause) s).imp (And.imp_right fun hc _ => hc)
      (And.imp_right (⟨·, .inr rfl⟩))

/-- Settles O32: an idle step answers; a request is answered or refused as `serve_cases` says. -/
theorem machineStopsOnlyBeforeAnyInit : Obligations.MachineStopsOnlyBeforeAnyInit := by
  intro s
  cases hr : s.requests with
  | nil => simp [step_idle hr]
  | cons r rest =>
    rw [step_request hr]
    obtain ⟨⟨t, ht⟩, hc⟩ | ⟨href, hc, hcursor⟩ := serve_cases r { s with requests := rest }
    · refine ⟨.inl ⟨t, ht⟩, fun href => (nomatch ht.symm.trans href), fun ⟨hnc, _, hreq⟩ => ?_⟩
      have hcursor : r = .next ∨ r = .nextE := hreq.imp (fun h => (List.cons.inj h).1) fun h => (List.cons.inj h).1
      cases hnc.symm.trans (hc hcursor)
    · refine ⟨.inr href, fun _ => ⟨hc, rest, ?_⟩, fun _ => href⟩
      exact hcursor.imp (congrArg (· :: rest)) (congrArg (· :: rest))

theorem step_next_of_constructed {s : State} (hc : s.constructed = true) : ∃ t, step s = .next t := by
  obtain ⟨hnext | href, hiff⟩ := machineStopsOnlyBeforeAnyInit s
  · exact hnext
  · obtain ⟨hnc, -⟩ := hiff.mp href
    cases hnc.symm.trans hc

end Sys2Proof.Machine
end

section
/-! PROOFS. What a step keeps and what it answers (`spec/48_stream_cursor.md` R328, R329; `spec/60_exceptions.md` R347),
read off the cases of `StepCase`. -/

namespace Sys2Proof.Machine

open Sys2Proof

/-! ## The cursor over a step -/

/-- No operation unmakes a cursor. -/
theorem StepCase.constructed {s t : State} (hst : StepCase s t) (hc : s.constructed = true) : t.constructed = true := by
  cases hst with
  | init _ => exact State.initCursor_constructed _ _
  | _ => exact hc

/-- Without `INIT`, `POS` moves only over an instruction that `NEXT` or `NEXT_E` has decoded. -/
theorem StepCase.pos {s t : State} (hst : StepCase s t) (hni : ∀ r ∈ s.requests.head?, isInit r = false) :
    t.pos = s.pos ∨
      (s.st = .positioned ∧ t.st = .positioned ∧ s.pos < t.pos ∧ t.pos ≤ s.pos + 3 ∧ t.pos ≤ s.len) := by
  cases hst with
  | init hr => simp [hr, isInit] at hni
  | nextSome _ _ hp _ h1 h3 hl => exact .inr ⟨hp, hp, Nat.lt_add_of_pos_right h1, Nat.add_le_add_left h3 _, hl⟩
  | item _ _ hp _ h1 h3 hl => exact .inr ⟨hp, hp, Nat.lt_add_of_pos_right h1, Nat.add_le_add_left h3 _, hl⟩
  | _ => exact .inl rfl

/-- Without `INIT` an exhausted cursor is left as it is (R328). -/
theorem StepCase.exhausted {s t : State} (hst : StepCase s t) (hni : ∀ r ∈ s.requests.head?, isInit r = false)
    (hx : s.st = .exhausted) : t.st = .exhausted ∧ t.pos = s.pos ∧ t.cause = s.cause := by
  cases hst with
  | init hr => simp [hr, isInit] at hni
  | nextSome _ _ hp | nextNone _ _ hp | item _ _ hp | ended _ _ hp => cases hp.symm.trans hx
  | _ => exact ⟨hx, rfl, rfl⟩

/-- Settles O36, its three parts one lemma each. -/
theorem onlyInitMovesBackOrRevives : Obligations.OnlyInitMovesBackOrRevives := by
  intro s t hni ht
  refine ⟨(step_cases ht).pos hni, (step_cases ht).exhausted hni, fun hidle => ?_⟩
  cases (step_idle hidle).symm.trans ht
  rfl

/-! ## The answers of a step -/

/-- A step takes the oldest request off the queue. -/
theorem StepCase.requests {s t : State} (hst : StepCase s t) : t.requests = s.requests.tail := by
  cases hst with
  | idle hr => rw [hr]; rfl
  | init hr => rw [State.initCursor_requests, hr]; rfl
  | headerOk hr | headerErr hr | valid hr | invalid hr | decodeOk hr | decodeErr hr | nextExhausted hr | nextSome hr
  | nextNone hr | nextEExhausted hr | item hr | ended hr => rw [hr]; rfl

/-- From `s` to `t` the requests `rs` were answered, each other than `INIT` with one response, in their order, which is
in the relation `rel` to its request. -/
def Answered (rel : Request → Response → Prop) (rs : List Request) (s t : State) : Prop :=
  ∃ new, t.delivered = new ++ s.delivered ∧ List.Forall₂ rel (rs.filter fun r => !isInit r) new.reverse

theorem Answered.refl (rel : Request → Response → Prop) (s : State) : Answered rel [] s s := ⟨[], rfl, .nil⟩

theorem Answered.trans {rel : Request → Response → Prop} {rs rs' : List Request} {s t u : State}
    (h : Answered rel rs s t) (h' : Answered rel rs' t u) : Answered rel (rs ++ rs') s u := by
  obtain ⟨new, hd, hrel⟩ := h
  obtain ⟨new', hd', hrel'⟩ := h'
  refine ⟨new' ++ new, by rw [hd', hd, List.append_assoc], ?_⟩
  rw [List.filter_append, List.reverse_append]
  exact List.rel_append hrel hrel'

theorem Answered.mono {rel rel' : Request → Response → Prop} (himp : ∀ r a, rel r a → rel' r a) {rs : List Request}
    {s t : State} (h : Answered rel rs s t) : Answered rel' rs s t := by
  obtain ⟨new, hd, hrel⟩ := h
  exact ⟨new, hd, hrel.imp himp⟩

/-- One request: `INIT` is not answered, any other gets one response. -/
theorem answered_singleton {rel : Request → Response → Prop} {r : Request} {s t : State} :
    Answered rel [r] s t ↔
      if isInit r = true then t.delivered = s.delivered else ∃ a, t.delivered = a :: s.delivered ∧ rel r a := by
  cases hi : isInit r with
  | true => simp [Answered, hi]
  | false => simp [Answered, hi, List.forall₂_cons_left_iff]

theorem Answered.oldest {rel : Request → Response → Prop} {s t : State} {r : Request} {rest : List Request} {a : Response}
    (hr : s.requests = r :: rest) (hi : isInit r = false) (hd : t.delivered = a :: s.delivered) (h : rel r a) :
    Answered rel (s.requests.take 1) s t := by
  rw [hr]
  exact answered_singleton.mpr (by simp [hi, hd, h])

/-- The responses each request can get in a state: its operation's outcomes, which on an exhausted cursor are `None` and
`End(CAUSE)` for the requests of the cursor. That this `CAUSE` is a decode failure, only the invariant says. -/
def MayGet (s : State) (r : Request) (a : Response) : Prop :=
  match r with
  | .parseHeader | .validate _ | .decode _ | .init _ => mayAnswer r a = true
  | .next => mayAnswer r a = true ∧ (s.st = .exhausted → a = .nextNone)
  | .nextE => (Inv s → mayAnswer r a = true) ∧ (s.st = .exhausted → a = .ended s.cause)

theorem MayGet.mayAnswer {s : State} {r : Request} {a : Response} (h : MayGet s r a) (hinv : Inv s) :
    mayAnswer r a = true := by
  cases r with
  | parseHeader | validate _ | decode _ | init _ => exact h
  | next => exact h.1
  | nextE => exact h.1 hinv

/-- A step answers the oldest request, if there is one. -/
theorem StepCase.answered {s t : State} (hst : StepCase s t) : Answered (MayGet s) (s.requests.take 1) s t := by
  cases hst with
  | idle hr => rw [hr]; exact .refl _ _
  | init hr => rw [hr]; exact answered_singleton.mpr (State.initCursor_delivered _ _)
  | headerOk hr _ => exact .oldest hr rfl rfl rfl
  | headerErr hr he => exact .oldest hr rfl rfl he
  | valid hr _ => exact .oldest hr rfl rfl rfl
  | invalid hr _ => exact .oldest hr rfl rfl rfl
  | decodeOk hr _ _ _ _ => exact .oldest hr rfl rfl rfl
  | decodeErr hr he => exact .oldest hr rfl rfl he
  | nextExhausted hr _ _ => exact .oldest hr rfl rfl ⟨rfl, fun _ => rfl⟩
  | nextSome hr _ hp => exact .oldest hr rfl rfl ⟨rfl, fun hx => nomatch hp.symm.trans hx⟩
  | nextNone hr _ _ _ => exact .oldest hr rfl rfl ⟨rfl, fun _ => rfl⟩
  | nextEExhausted hr hc hx => exact .oldest hr rfl rfl ⟨fun hinv => hinv.causeIsDecodeFailure hc hx, fun _ => rfl⟩
  | item hr _ hp => exact .oldest hr rfl rfl ⟨fun _ => rfl, fun hx => nomatch hp.symm.trans hx⟩
  | ended hr _ hp he => exact .oldest hr rfl rfl ⟨fun _ => he, fun hx => nomatch hp.symm.trans hx⟩

/-- Settles O39: what the step answers the oldest request. -/
theorem eachOperationAnswersItsOwnOutcomes : Obligations.EachOperationAnswersItsOwnOutcomes := by
  intro s t r rest hr hinv ht
  have hreq := (step_cases ht).requests
  have hans := (step_cases ht).answered.mono fun _ _ h => h.mayAnswer hinv
  rw [hr] at hreq hans
  exact ⟨hreq, answered_singleton.mp hans⟩

end Sys2Proof.Machine
end

section
/-! PROOFS. Runs: how many steps answer the host's requests (`spec/48_stream_cursor.md` R328 to R331; `spec/60_exceptions.md`
R348). What every step keeps and answers, every run does (`run_answered`). -/

namespace Sys2Proof.Machine

open Sys2Proof

theorem run_succ {k : Nat} {s t : State} (h : step s = .next t) : core.run (k + 1) s = core.run k t := by
  simp only [Host.Core.run, show core.step s = .next t from h]

/-- Where every step from a state with `I` answers a next state with `I`, takes a request off the queue and answers it as
`rel` says, so does every run. -/
theorem run_answered {I : State → Prop} {rel : Request → Response → Prop}
    (hstep : ∀ s, I s → ∃ t, step s = .next t ∧ I t ∧ t.requests = s.requests.tail ∧
      Answered rel (s.requests.take 1) s t) (k : Nat) (s : State) (hs : I s) :
    ∃ t, core.run k s = .next t ∧ I t ∧ t.requests = s.requests.drop k ∧ Answered rel (s.requests.take k) s t := by
  induction k generalizing s with
  | zero => exact ⟨s, rfl, hs, rfl, .refl rel s⟩
  | succ k ih =>
    obtain ⟨t, ht, hIt, hreq, hfirst⟩ := hstep s hs
    obtain ⟨u, hu, hIu, hdrop, hrest⟩ := ih t hIt
    refine ⟨u, (run_succ ht).trans hu, hIu, ?_, ?_⟩
    · rw [hdrop, hreq, List.drop_tail]
    · rw [Nat.add_comm, List.take_add, List.drop_one, ← hreq]
      exact hfirst.trans hrest

/-! ## Once a cursor is constructed (R348) -/

/-- What every step keeps of a state `s₀` with a constructed cursor. -/
structure RunsFrom (s₀ s : State) : Prop where
  constructed : s.constructed = true
  rom : s.rom = s₀.rom
  len : s.len = s₀.len
  inv : Inv s₀ → Inv s

theorem RunsFrom.step {s₀ s : State} (h : RunsFrom s₀ s) :
    ∃ t, step s = .next t ∧ RunsFrom s₀ t ∧ t.requests = s.requests.tail ∧
      Answered (fun r a => Inv s₀ → mayAnswer r a = true) (s.requests.take 1) s t := by
  obtain ⟨t, ht⟩ := step_next_of_constructed h.constructed
  have hst := step_cases ht
  obtain ⟨hrom, hlen⟩ := hst.rom_len
  exact ⟨t, ht, ⟨hst.constructed h.constructed, hrom.trans h.rom, hlen.trans h.len, fun hinv => hst.inv (h.inv hinv)⟩,
    hst.requests, hst.answered.mono fun _ _ hget hinv => hget.mayAnswer (h.inv hinv)⟩

/-- Settles O33: a run of steps that each keep `RunsFrom`. -/
theorem constructedMachineRunsForEver : Obligations.ConstructedMachineRunsForEver := by
  intro k s hc
  obtain ⟨t, ht, hkept, hdrop, new, hnew, hrel⟩ := run_answered (fun _ => RunsFrom.step) k s ⟨hc, rfl, rfl, id⟩
  refine ⟨t, ht, hkept.constructed, hkept.rom, hkept.len, hdrop, new, hnew, ?_, fun hinv p hp => ?_⟩
  · rw [hrel.length_eq, List.length_reverse]
  · exact List.forall₂_zip hrel hp hinv

/-! ## Once it is exhausted (R328) -/

/-- A constructed cursor exhausted at `p` with cause `c`, and no `INIT` pending. -/
structure EndedAt (p : Nat) (c : Error) (s : State) : Prop where
  constructed : s.constructed = true
  exhausted : s.st = .exhausted
  pos : s.pos = p
  cause : s.cause = c
  noInit : ∀ r ∈ s.requests, isInit r = false

/-- The responses a request other than `INIT` can get from an exhausted cursor. -/
def EndAnswer (c : Error) (r : Request) (a : Response) : Prop :=
  (r = .next → a = .nextNone) ∧ (r = .nextE → a = .ended c) ∧ (isPure r = true → mayAnswer r a = true)

theorem MayGet.endAnswer {s : State} {r : Request} {a : Response} (h : MayGet s r a) (hx : s.st = .exhausted) :
    EndAnswer s.cause r a := by
  cases r with
  | parseHeader | validate _ | decode _ | init _ => exact ⟨nofun, nofun, fun _ => h⟩
  | next =>
    obtain ⟨-, hnone⟩ := h
    exact ⟨fun _ => hnone hx, nofun, nofun⟩
  | nextE =>
    obtain ⟨-, hended⟩ := h
    exact ⟨nofun, fun _ => hended hx, nofun⟩

theorem EndedAt.step {p : Nat} {c : Error} {s : State} (h : EndedAt p c s) :
    ∃ t, step s = .next t ∧ EndedAt p c t ∧ t.requests = s.requests.tail ∧
      Answered (EndAnswer c) (s.requests.take 1) s t := by
  obtain ⟨hc, hx, rfl, rfl, hni⟩ := h
  obtain ⟨t, ht⟩ := step_next_of_constructed hc
  have hst := step_cases ht
  obtain ⟨hx', hpos, hcause⟩ := hst.exhausted (fun r hr => hni r (List.mem_of_mem_head? hr)) hx
  refine ⟨t, ht, ⟨hst.constructed hc, hx', hpos, hcause, fun r hr => ?_⟩, hst.requests,
    hst.answered.mono fun _ _ hget => hget.endAnswer hx⟩
  exact hni r (List.mem_of_mem_tail (hst.requests ▸ hr))

/-- Settles O34: a run of steps that each keep `EndedAt`; no request among them is an `INIT`. -/
theorem exhaustedIsTerminal : Obligations.ExhaustedIsTerminal := by
  intro k s hc hx hni
  obtain ⟨t, ht, hend, -, new, hnew, hrel⟩ := run_answered (fun _ => EndedAt.step) k s ⟨hc, hx, rfl, rfl, hni⟩
  have hall : (s.requests.take k).filter (fun r => !isInit r) = s.requests.take k :=
    List.filter_eq_self.mpr fun r hr => by simp [hni r (List.mem_of_mem_take hr)]
  rw [hall] at hrel
  refine ⟨t, ht, hend.pos, hend.exhausted, hend.cause, new, hnew, ?_, fun p hp => List.forall₂_zip hrel hp⟩
  rw [hrel.length_eq, List.length_reverse]

/-! ## The sequence `S` (R330, R331) -/

theorem State.itemsRef_congr {s t : State} (hr : s.rom = t.rom) (hl : s.len = t.len) (fuel p : Nat) :
    s.itemsRef fuel p = t.itemsRef fuel p := by
  induction fuel generalizing p with
  | zero => rfl
  | succ fuel ih => simp only [State.itemsRef, State.decodeRef_congr hr hl, ih]

theorem State.itemsRef_length_le (s : State) (fuel p : Nat) : (s.itemsRef fuel p).length ≤ fuel := by
  induction fuel generalizing p with
  | zero => exact Nat.le_refl 0
  | succ fuel ih =>
    rw [State.itemsRef]
    split
    · exact Nat.succ_le_succ (ih _)
    · exact Nat.zero_le _

theorem State.itemsRef_error {s : State} {p : Nat} {e : Error} (h : s.decodeRef p = .error e) (fuel : Nat) :
    s.itemsRef fuel p = [] := by
  cases fuel with
  | zero => rfl
  | succ fuel => rw [State.itemsRef, h]

theorem State.itemsRef_ok {s : State} {p n : Nat} {i : Instruction} (h : s.decodeRef p = .ok (i, n)) (fuel : Nat) :
    s.itemsRef (fuel + 1) p = i :: s.itemsRef fuel (p + n) := by
  rw [State.itemsRef, h]

theorem step_next_exhausted {s : State} {rest : List Request} (hc : s.constructed = true) (hx : s.st = .exhausted)
    (hr : s.requests = .next :: rest) : step s = .next ({ s with requests := rest, op := .next }.respond .nextNone) :=
  (step_request hr).trans (serve_next_exhausted (s := { s with requests := rest }) hc hx)

theorem step_next_ok {s : State} {rest : List Request} {n : Nat} {i : Instruction} (hc : s.constructed = true)
    (hp : s.st = .positioned) (hr : s.requests = .next :: rest) (hd : s.decodeRef s.pos = .ok (i, n)) :
    step s = .next (({ s with requests := rest, op := .next }.advance n).respond (.nextSome i)) :=
  (step_request hr).trans (serve_next_ok (s := { s with requests := rest }) hc hp hd)

theorem step_next_error {s : State} {rest : List Request} {e : Error} (hc : s.constructed = true)
    (hp : s.st = .positioned) (hr : s.requests = .next :: rest) (hd : s.decodeRef s.pos = .error e) :
    step s = .next (({ s with requests := rest, op := .next }.setExhausted e).respond .nextNone) :=
  (step_request hr).trans (serve_next_error (s := { s with requests := rest }) hc hp hd)

/-- An exhausted cursor answers every `NEXT` with `None`. -/
theorem run_next_exhausted {k : Nat} {s : State} (hc : s.constructed = true) (hx : s.st = .exhausted)
    (hr : s.requests = List.replicate k .next) :
    ∃ t, core.run k s = .next t ∧ t.st = .exhausted ∧ t.pos = s.pos ∧ t.cause = s.cause ∧
      t.delivered = List.replicate k .nextNone ++ s.delivered := by
  induction k generalizing s with
  | zero => exact ⟨s, rfl, hx, rfl, rfl, rfl⟩
  | succ k ih =>
    obtain ⟨t, ht, hxt, hpos, hcause, hnew⟩ :=
      ih (s := { s with requests := List.replicate k .next, op := .next }.respond .nextNone) hc hx rfl
    refine ⟨t, (run_succ (step_next_exhausted hc hx hr)).trans ht, hxt, hpos, hcause, ?_⟩
    simp [hnew, List.replicate_succ']

/-- `k` steps of `s` answer `Some` of each of the items and then only `None`, and leave the cursor exhausted by the decode
that fails at its position. -/
def YieldsAndEnds (items : List Instruction) (k : Nat) (s : State) : Prop :=
  ∃ (t : State) (m : Nat), core.run k s = .next t ∧ t.st = .exhausted ∧
    t.delivered = List.replicate m .nextNone ++ items.reverse.map .nextSome ++ s.delivered ∧
    m + items.length = k ∧ s.decodeRef t.pos = .error t.cause

theorem yieldsAndEnds_nil {k : Nat} {s : State} {e : Error} (hc : s.constructed = true) (hp : s.st = .positioned)
    (hr : s.requests = List.replicate (k + 1) .next) (hd : s.decodeRef s.pos = .error e) :
    YieldsAndEnds [] (k + 1) s := by
  obtain ⟨t, ht, hxt, hpos, hcause, hnew⟩ := run_next_exhausted
    (s := ({ s with requests := List.replicate k .next, op := .next }.setExhausted e).respond .nextNone) hc rfl rfl
  refine ⟨t, k + 1, (run_succ (step_next_error hc hp hr hd)).trans ht, hxt, ?_, rfl, ?_⟩
  · simp [hnew, List.replicate_succ']
  · rw [hpos, hcause]
    exact hd

theorem YieldsAndEnds.cons {k n : Nat} {s : State} {i : Instruction} {items : List Instruction} {rest : List Request}
    (hc : s.constructed = true) (hp : s.st = .positioned) (hr : s.requests = .next :: rest)
    (hd : s.decodeRef s.pos = .ok (i, n))
    (h : YieldsAndEnds items k (({ s with requests := rest, op := .next }.advance n).respond (.nextSome i))) :
    YieldsAndEnds (i :: items) (k + 1) s := by
  obtain ⟨t, m, ht, hx, hnew, hm, hend⟩ := h
  exact ⟨t, m, (run_succ (step_next_ok hc hp hr hd)).trans ht, hx, by simp [hnew], congrArg (· + 1) hm, hend⟩

/-- Each item takes at least one byte, so as much fuel as there are bytes left is enough. -/
theorem yieldsAndEnds_itemsRef {fuel k : Nat} {s : State} (hc : s.constructed = true) (hp : s.st = .positioned)
    (hr : s.requests = List.replicate (k + 1) .next) (hfuel : s.len - s.pos ≤ fuel) (hk : fuel ≤ k) :
    YieldsAndEnds (s.itemsRef fuel s.pos) (k + 1) s := by
  induction fuel generalizing k s with
  | zero => exact yieldsAndEnds_nil hc hp hr (State.decodeRef_beyond (by omega))
  | succ fuel ih =>
    rcases hd : s.decodeRef s.pos with e | ⟨i, n⟩
    · rw [State.itemsRef_error hd]
      exact yieldsAndEnds_nil hc hp hr hd
    · obtain ⟨-, hin, -, hn⟩ := State.decodeRef_eq_ok hd
      have hpos := (encodingLength_bounds (s.rom.read s.pos)).1
      obtain ⟨k, rfl⟩ := Nat.exists_eq_succ_of_ne_zero (show k ≠ 0 by omega)
      have hrest := ih (s := ({ s with requests := List.replicate (k + 1) .next, op := .next }.advance n).respond
        (.nextSome i)) hc hp rfl (by simp; omega) (Nat.le_of_succ_le_succ hk)
      rw [State.itemsRef_congr (t := s) (by rfl) (by rfl)] at hrest
      rw [State.itemsRef_ok hd]
      exact hrest.cons hc hp hr hd

/-- Settles O35: the items of `S(POS)` are at most as many as the bytes left, so at least one of the requests is left for
the decode that fails. -/
theorem cursorYieldsTheSequenceAndEnds : Obligations.CursorYieldsTheSequenceAndEnds := by
  intro s k hc hp _ hr hk
  obtain ⟨k, rfl⟩ := Nat.exists_eq_succ_of_ne_zero (show k ≠ 0 by omega)
  obtain ⟨t, m, ht, hx, hnew, hm, hend⟩ := yieldsAndEnds_itemsRef hc hp hr le_rfl (Nat.le_of_succ_le_succ hk)
  have hlen := s.itemsRef_length_le (s.len - s.pos) s.pos
  exact ⟨t, m, ht, hx, by omega, hnew, hm, hlen, hend⟩

end Sys2Proof.Machine
end
